-- ==== Sys2Proof/Word.lean ====
section
/-! DEFINITION. The widths of the T2C v1 block: command words (R75), bytes and ticks (R13), and the small
unsigned indices of the command formats (R77, R84). -/
namespace Sys2Proof

/-- A command word, bit 31 most significant (R63, R75). -/
abbrev Word := BitVec 32

/-- A `u8`: a color channel, a sample, a response (R13, R15). -/
abbrev Byte := BitVec 8

/-- A `u16`: a tick count (R13). -/
abbrev Ticks := BitVec 16

/-- The 3-bit stage index `K`, and the register `WDK` (R30, R81). -/
abbrev Stage := BitVec 3

/-- The 2-bit channel index `CH` as it stands in a word; 3 is illegal (R79). -/
abbrev Channel := BitVec 2

/-- The 4-bit register number `RN`; 10 to 15 are reserved (R39, R83). -/
abbrev RegNum := BitVec 4

end Sys2Proof
end

