-- ==== Sys2Proof/Config.lean ====
section
/-! DEFINITION. What an implementation fixes (R8 to R14, R102) and the free values.
The parameters with a default stand in a plain record, one of which every State carries; the parameters the
spec leaves OPEN are constants without a body, so no proof can rest on a value of theirs. -/
namespace Sys2Proof

/-- `KMAX`, the top ladder stage: 6 or 7, "No other value is admitted by this spec" (R11). -/
inductive MaxStage where
  | six
  | seven
deriving DecidableEq, Repr

/-- `KMAX` as the number it stands for (R11). -/
def MaxStage.toNat : MaxStage → Nat
  | .six => 6
  | .seven => 7

/-- The parameters of R8 to R11. `kmax` is `KMAX`; the times are in cycles of the instruction clock
(`T0H`, `T1H`, `TBIT`) or in nanoseconds (`T_TOL_NS`, `T_RESET_NS`). DESIGN CHOICE (log 26): `T_TOL_NS` and
`T_RESET_NS` are natural numbers, where the parameter summary of 00_scope.md says only "positive". -/
structure Params where
  clkHz    : Nat
  t0h      : Nat
  t1h      : Nat
  tbit     : Nat
  tTolNs   : Nat
  tResetNs : Nat
  kmax     : MaxStage
deriving DecidableEq, Repr

/-- The defaults of the parameter summary in 00_scope.md (R8 to R11). -/
def Params.default : Params where
  clkHz    := 8000000
  t0h      := 3
  t1h      := 5
  tbit     := 10
  tTolNs   := 150
  tResetNs := 50000
  kmax     := .seven

/-- The admitted values: `0 < T0H < T1H < TBIT` (R9) and the positive figures of the parameter summary. -/
abbrev Params.wf (p : Params) : Prop :=
  0 < p.t0h ∧ p.t0h < p.t1h ∧ p.t1h < p.tbit ∧ 0 < p.clkHz ∧ 0 < p.tTolNs ∧ 0 < p.tResetNs

/-- The three physical colours of R14. -/
inductive Primary where
  | red
  | green
  | blue
deriving DecidableEq, Repr

/-- The bijections from channels 0, 1, 2 to the colours (R14): the name lists the colours of channels
0, 1 and 2. -/
inductive ChannelMap where
  | rgb
  | rbg
  | grb
  | gbr
  | brg
  | bgr
deriving DecidableEq, Repr, Inhabited

/-- The colours of channels 0, 1 and 2 (R14). -/
def ChannelMap.colors : ChannelMap → Primary × Primary × Primary
  | .rgb => (.red, .green, .blue)
  | .rbg => (.red, .blue, .green)
  | .grb => (.green, .red, .blue)
  | .gbr => (.green, .blue, .red)
  | .brg => (.blue, .red, .green)
  | .bgr => (.blue, .green, .red)

/-- Whose turn it is: the agent that makes the next step of the run (R7, R70). A convert turn carries the
draw of R144, since the converter reads the analog input `SENSE` from outside the block. -/
inductive Turn where
  | engine
  | expire
  | convert (v : Byte)
  | reset
deriving DecidableEq, Repr, Inhabited

/-- `TICK_S`, seconds per countdown tick, OPEN: any positive real (R12, D10); free value, log 15. No step reads
it; what is claimed of the light takes the premise of R214 about it. -/
noncomputable opaque Config.tickSeconds : Set.Ioi (0 : ℝ)

/-- `CHANNEL_MAP`, OPEN (R14); free value, log 15. The block never reads it. -/
opaque Config.channelMap : ChannelMap

/-- `T_TXOVH`, cycles before the first and after the last bit of TX, OPEN and not modelled by any rule
(R102); free value, log 15. -/
opaque Config.txOverheadCycles : Nat

/-- The turn that the n-th free choice of the run gives: which agent moves, and with which draw (R7, R144);
free value, log 3. -/
opaque Config.freeTurn : Nat → Turn

end Sys2Proof
end

