-- ==== Sys2Proof/Syntax.lean ====
section
/-! DEFINITION. The 13 commands of T2C v1 (R85), one constructor per row of spec/opcode_table.json, with the
operand fields of the six formats at the widths their bits give them (R77, R84). -/
namespace Sys2Proof

/-- A command. Every operand is an unsigned immediate (R84); which operand values are legal is
`Instr.WellFormed`. -/
inductive Instr where
  /-- NOP, format N, R152. -/
  | nop
  /-- INIT, format N, R154. -/
  | init
  /-- SETC `CH`, `V`, format C, R95. -/
  | setc (ch : Channel) (v : Byte)
  /-- SETRGB `V0`, `V1`, `V2`, format P, R97. -/
  | setrgb (v0 v1 v2 : Byte)
  /-- TX, format N, R104. -/
  | tx
  /-- CLI, format N, R156. -/
  | cli
  /-- SEI, format N, R158. -/
  | sei
  /-- HALT, format N, R160. -/
  | halt
  /-- WDCFG `K`, format K, R116. -/
  | wdcfg (k : Stage)
  /-- WDSTOP, format N, R118. -/
  | wdstop
  /-- NAP `T`, format T, R128. -/
  | nap (t : Ticks)
  /-- SAMPLE, format N, R142. -/
  | sample
  /-- RDREG `RN`, format R, R166. -/
  | rdreg (rn : RegNum)
deriving DecidableEq, Repr

end Sys2Proof
end

