-- ==== Sys2Proof/WellFormed.lean ====
section
/-! DEFINITION. The operand values the spec admits: the field-value constraints that a mask cannot express
(R85): `CH` ≠ 3 (R79), `K` ≤ `KMAX` (R81), `RN` ≤ 9 (R83). -/
namespace Sys2Proof

/-- `CH` is 0, 1 or 2: the color is "exactly 3 bytes" (R79). -/
abbrev Channel.legal (ch : Channel) : Prop := ch ≠ 3#2

/-- `K` is at most `KMAX` (R81). -/
abbrev Stage.legal (kmax : MaxStage) (k : Stage) : Prop := k.toNat ≤ kmax.toNat

/-- `RN` is at most 9 (R83). -/
abbrev RegNum.legal (rn : RegNum) : Prop := rn.toNat ≤ 9

/-- The command is one of T2C v1 with top stage `kmax`. -/
def Instr.WellFormed (kmax : MaxStage) : Instr → Bool
  | .nop => true
  | .init => true
  | .setc ch _ => decide (Channel.legal ch)
  | .setrgb _ _ _ => true
  | .tx => true
  | .cli => true
  | .sei => true
  | .halt => true
  | .wdcfg k => decide (Stage.legal kmax k)
  | .wdstop => true
  | .nap _ => true
  | .sample => true
  | .rdreg rn => decide (RegNum.legal rn)

end Sys2Proof
end

