-- ==== Sys2Proof/Decode.lean ====
section
/-! DEFINITION. Decoding of T2C v1, total on any word and on any bytes, rejecting by name (R86, R87); after it
the encoder (R85, R91), the byte order of stored words (R63) and the opcode table as rows. -/
namespace Sys2Proof

/-- Why a word is illegal (R87). -/
inductive DecodeError where
  /-- `OP` is 0x0D to 0xFF. -/
  | reservedOpcode (op : Byte)
  /-- A bit that the format reserves is not 0 (R78 to R83). -/
  | reservedBits
  /-- `CH` = 3 (R79). -/
  | channelOutOfRange
  /-- `K` > `KMAX` (R81). -/
  | stageOutOfRange
  /-- `RN` > 9 (R83). -/
  | registerOutOfRange
  /-- Fewer than four bytes are left of a stored program (R63, R75). -/
  | truncated
deriving DecidableEq, Repr

/-- The opcode field `OP = w[31:24]` (R76). -/
def opcodeField (w : Word) : Byte := w.extractLsb' 24 8

/-- Format N: bits 23:0 must be 0 (R78). -/
def decodeN (i : Instr) (w : Word) : Except DecodeError Instr :=
  if w.extractLsb' 0 24 ≠ 0#24 then .error .reservedBits else .ok i

/-- Format C: bits 23:18 and 15:8 must be 0 and `CH` must not be 3 (R79). -/
def decodeC (w : Word) : Except DecodeError Instr :=
  if w.extractLsb' 18 6 ≠ 0#6 ∨ w.extractLsb' 8 8 ≠ 0#8 then .error .reservedBits
  else if w.extractLsb' 16 2 = 3#2 then .error .channelOutOfRange
  else .ok (.setc (w.extractLsb' 16 2) (w.extractLsb' 0 8))

/-- Format P: no bit is reserved (R80). -/
def decodeP (w : Word) : Except DecodeError Instr :=
  .ok (.setrgb (w.extractLsb' 16 8) (w.extractLsb' 8 8) (w.extractLsb' 0 8))

/-- Format K: bits 23:3 must be 0 and `K` at most `KMAX` (R81). -/
def decodeK (kmax : MaxStage) (w : Word) : Except DecodeError Instr :=
  if w.extractLsb' 3 21 ≠ 0#21 then .error .reservedBits
  else if kmax.toNat < (w.extractLsb' 0 3).toNat then .error .stageOutOfRange
  else .ok (.wdcfg (w.extractLsb' 0 3))

/-- Format T: bits 23:16 must be 0 (R82). -/
def decodeT (w : Word) : Except DecodeError Instr :=
  if w.extractLsb' 16 8 ≠ 0#8 then .error .reservedBits
  else .ok (.nap (w.extractLsb' 0 16))

/-- Format R: bits 23:4 must be 0 and `RN` at most 9 (R83). -/
def decodeR (w : Word) : Except DecodeError Instr :=
  if w.extractLsb' 4 20 ≠ 0#20 then .error .reservedBits
  else if 9 < (w.extractLsb' 0 4).toNat then .error .registerOutOfRange
  else .ok (.rdreg (w.extractLsb' 0 4))

/-- `decode` (R86): total on any 32-bit word. -/
def decode (kmax : MaxStage) (w : Word) : Except DecodeError Instr :=
  match (opcodeField w).toNat with
  | 0x00 => decodeN .nop w
  | 0x01 => decodeN .init w
  | 0x02 => decodeC w
  | 0x03 => decodeP w
  | 0x04 => decodeN .tx w
  | 0x05 => decodeN .cli w
  | 0x06 => decodeN .sei w
  | 0x07 => decodeN .halt w
  | 0x08 => decodeK kmax w
  | 0x09 => decodeN .wdstop w
  | 0x0A => decodeT w
  | 0x0B => decodeN .sample w
  | 0x0C => decodeR w
  | _ => .error (.reservedOpcode (opcodeField w))

/-- The opcode of a command (R85). -/
def Instr.opcode : Instr → Byte
  | .nop => 0x00#8
  | .init => 0x01#8
  | .setc _ _ => 0x02#8
  | .setrgb _ _ _ => 0x03#8
  | .tx => 0x04#8
  | .cli => 0x05#8
  | .sei => 0x06#8
  | .halt => 0x07#8
  | .wdcfg _ => 0x08#8
  | .wdstop => 0x09#8
  | .nap _ => 0x0A#8
  | .sample => 0x0B#8
  | .rdreg _ => 0x0C#8

/-- Bits 23:0 of a command's word, by its format (R77). -/
def Instr.fieldBits : Instr → BitVec 24
  | .nop | .init | .tx | .cli | .sei | .halt | .wdstop | .sample => 0#24
  | .setc ch v => 0#6 ++ ch ++ (0#8 ++ v)
  | .setrgb v0 v1 v2 => v0 ++ v1 ++ v2
  | .wdcfg k => 0#21 ++ k
  | .nap t => 0#8 ++ t
  | .rdreg rn => 0#20 ++ rn

/-- The word a command assembles to (R77, R85, R91): the opcode, then the format's fields. -/
def encode (i : Instr) : Word := i.opcode ++ i.fieldBits

/-- A row of the opcode map of R85: a word `w` matches when `w &&& mask = val`. -/
structure OpcodeRow where
  mnemonic : String
  mask     : Word
  val      : Word
deriving DecidableEq, Repr

/-- The opcode map of R85, in its order. -/
def opcodeTable : List OpcodeRow :=
  [⟨"NOP", 0xFFFFFFFF#32, 0x00000000#32⟩, ⟨"INIT", 0xFFFFFFFF#32, 0x01000000#32⟩,
   ⟨"SETC", 0xFFFCFF00#32, 0x02000000#32⟩, ⟨"SETRGB", 0xFF000000#32, 0x03000000#32⟩,
   ⟨"TX", 0xFFFFFFFF#32, 0x04000000#32⟩, ⟨"CLI", 0xFFFFFFFF#32, 0x05000000#32⟩,
   ⟨"SEI", 0xFFFFFFFF#32, 0x06000000#32⟩, ⟨"HALT", 0xFFFFFFFF#32, 0x07000000#32⟩,
   ⟨"WDCFG", 0xFFFFFFF8#32, 0x08000000#32⟩, ⟨"WDSTOP", 0xFFFFFFFF#32, 0x09000000#32⟩,
   ⟨"NAP", 0xFFFF0000#32, 0x0A000000#32⟩, ⟨"SAMPLE", 0xFFFFFFFF#32, 0x0B000000#32⟩,
   ⟨"RDREG", 0xFFFFFFF0#32, 0x0C000000#32⟩]

/-- `w` matches the row (R85). -/
abbrev OpcodeRow.matches (r : OpcodeRow) (w : Word) : Prop := w &&& r.mask = r.val

/-- The name R85 gives a command. -/
def Instr.mnemonic : Instr → String
  | .nop => "NOP"
  | .init => "INIT"
  | .setc _ _ => "SETC"
  | .setrgb _ _ _ => "SETRGB"
  | .tx => "TX"
  | .cli => "CLI"
  | .sei => "SEI"
  | .halt => "HALT"
  | .wdcfg _ => "WDCFG"
  | .wdstop => "WDSTOP"
  | .nap _ => "NAP"
  | .sample => "SAMPLE"
  | .rdreg _ => "RDREG"

/-- A stored word is four bytes, the most significant byte first (R63). -/
def bytesOfWord (w : Word) : List Byte :=
  [w.extractLsb' 24 8, w.extractLsb' 16 8, w.extractLsb' 8 8, w.extractLsb' 0 8]

/-- The word that four stored bytes stand for (R63). -/
def wordOfBytes (b0 b1 b2 b3 : Byte) : Word := b0 ++ b1 ++ b2 ++ b3

/-- The instruction at the front of stored bytes, and the bytes after it: every command is one word of four
bytes, so its length is known without looking at it (R75, R89). -/
def decodeBytes (kmax : MaxStage) : List Byte → Except DecodeError (Instr × List Byte)
  | b0 :: b1 :: b2 :: b3 :: rest =>
    match decode kmax (wordOfBytes b0 b1 b2 b3) with
    | .ok i => .ok (i, rest)
    | .error e => .error e
  | _ => .error .truncated

/-- The command words of a program stored as bytes (R63); a length that is no multiple of four is
refused (log 21). -/
def programOfBytes : List Byte → Except DecodeError (List Word)
  | [] => .ok []
  | b0 :: b1 :: b2 :: b3 :: rest =>
    match programOfBytes rest with
    | .ok ws => .ok (wordOfBytes b0 b1 b2 b3 :: ws)
    | .error e => .error e
  | _ => .error .truncated

/-- A program stored as bytes, most significant byte of each word first (R63). -/
def bytesOfProgram (ws : List Word) : List Byte := ws.flatMap bytesOfWord

/-- The command word whose bits the table gives as `w`, `nbits` of them, every bit above being 0. -/
def tableWord (nbits w : Nat) : Word := BitVec.ofNat 32 (w % 2 ^ nbits)

/-- What the decoder reads from the word of an opcode-table row, laid out as stored (R63), with the default
`KMAX` = 7 (R11). -/
def decodeTableWord (nbits w : Nat) : Option Instr :=
  match decodeBytes Params.default.kmax (bytesOfWord (tableWord nbits w)) with
  | .ok (i, _) => some i
  | .error _ => none

end Sys2Proof
end

