-- ==== Sys2Proof/Machine/State.lean ====
section
/-! DEFINITION. The state of the block (R44), the events of its trace (R45 to R47), the model faults it
records (R170), and the state after reset (R44, R207). Registers whose reset value the spec gives as ⊥ are
options, `none` being the spec's ⊥ (R15, R27, R33 to R35, R44; log 8). -/
namespace Sys2Proof.Machine

/-- The two interrupt sources (R174). -/
inductive Source where
  | wdt
  | adc
deriving DecidableEq, Repr

/-- `HWAIT`: the source whose service ends the halt (R26). -/
inductive HaltWait where
  | any
  | wdt
  | adc
deriving DecidableEq, Repr

/-- The level of a pin: driven low, driven high, or not driven (R20, R28). -/
inductive PinLevel where
  | low
  | high
  | z
deriving DecidableEq, Repr

/-- The micro-operations of `MQ` (R36). -/
inductive MicroOp where
  /-- `uArm(k)`, R125. -/
  | uArm (k : Stage)
  /-- `uSei`, R159. -/
  | uSei
  /-- `uCli`, R157. -/
  | uCli
  /-- `uHaltUntil(S)`, R162. -/
  | uHaltUntil (w : HaltWait)
  /-- `uSub(k)`, R125. -/
  | uSub (k : Stage)
  /-- `uSetRem(v)`, R125. -/
  | uSetRem (v : Ticks)
  /-- `uDisarm`, R125. -/
  | uDisarm
  /-- `uSensOn`, R143. -/
  | uSensOn
  /-- `uAdcStart`, R143. -/
  | uAdcStart
  /-- `uRead`, R143. -/
  | uRead
  /-- `uSensOff`, R143. -/
  | uSensOff
  /-- `uDone`, R150. -/
  | uDone
deriving DecidableEq, Repr

/-- The events of the observation trace (R45 to R47). -/
inductive Event where
  /-- `Seg(level, cycles)`, R45. -/
  | seg (level : Bool) (cycles : Nat)
  /-- `Frame(c0, c1, c2, fresh)`, R46. -/
  | frame (c0 c1 c2 : Byte) (fresh : Bool)
  /-- `Line(v)`, v ∈ 0, Z: a change of the pin outside a frame, R47. -/
  | line (v : PinLevel)
  /-- `Expire(k)`, R47. -/
  | expire (k : Stage)
  /-- `Slept(k)`, R47. -/
  | slept (k : Stage)
  /-- `Serviced(s)`, R47. -/
  | serviced (s : Source)
  /-- `Sense(b)`, R47. -/
  | sense (on : Bool)
  /-- `Sampled(v)`, R47. The value is copied from `ADRES` and `none` is its ⊥, which no run reaches
  (R143; log 11). -/
  | sampled (v : Option Byte)
  /-- `Resp(n, v)`, R47. -/
  | resp (n : RegNum) (v : Byte)
  /-- `Reset`, R47. -/
  | reset
deriving DecidableEq, Repr

/-- The model faults of R170, in the order of their codes 1, 2, 3. -/
inductive FaultCode where
  /-- 1 `Illegal`: the fetched word is illegal. -/
  | illegal
  /-- 2 `Unwritten`: TX or RDREG read a register that holds ⊥. -/
  | unwritten
  /-- 3 `NotInit`: TX with `DDATA` = 0, SAMPLE with `DSPWR` = 0. -/
  | notInit
deriving DecidableEq, Repr

/-- What raising a fault records: "(code, `CP`, word, register if any)" (R170). -/
structure FaultRecord where
  code : FaultCode
  cp   : Nat
  word : Word
  reg  : Option RegNum
deriving DecidableEq, Repr

/-- `COLOR[0..2]`: three bytes, each written or ⊥ (R27). -/
structure Color where
  c0 : Option Byte
  c1 : Option Byte
  c2 : Option Byte
deriving DecidableEq, Repr

/-- The complete state of the block (R44), under the spec's names. The last four fields are the model's own:
the parameters and the program, which R44 makes parameters of the step (logs 1 and 2), and the schedule of
agent turns (log 3). -/
structure State where
  /-- `CP`, R22. -/
  cp      : Nat
  /-- `MQ`, R36. -/
  mq      : List MicroOp
  /-- `I`, the global interrupt enable, R24. -/
  I       : Bool
  /-- `SHADOW`, R25. -/
  shadow  : Bool
  /-- `HALTED`, R26. -/
  halted  : Bool
  /-- `HWAIT`, R26. -/
  hwait   : HaltWait
  /-- `COLOR[0..2]`, R27. -/
  color   : Color
  /-- `DDATA`, R28. -/
  ddata   : Bool
  /-- `LINE`, R28. -/
  line    : Bool
  /-- `LATCHOK`, R29. -/
  latchok : Bool
  /-- `WDK`, R30. -/
  wdk     : Stage
  /-- `WDEN`, R31. -/
  wden    : Bool
  /-- `WDFRESH`, R31. -/
  wdfresh : Bool
  /-- `WDIE`, R32. -/
  wdie    : Bool
  /-- `WDIF`, R32. -/
  wdif    : Bool
  /-- `DSPWR`, R33. -/
  dspwr   : Bool
  /-- `SPWR`, R33. -/
  spwr    : Bool
  /-- `DIDR`, R33. -/
  didr    : Bool
  /-- `ADEN`, R33. -/
  aden    : Bool
  /-- `ADSC`, R33. -/
  adsc    : Bool
  /-- `ADIE`, R33. -/
  adie    : Bool
  /-- `ADIF`, R33. -/
  adif    : Bool
  /-- `ADRES`, R33. -/
  adres   : Option Byte
  /-- `SAMPLE`, R34. -/
  sample  : Option Byte
  /-- `NAPREM`, R35. -/
  naprem  : Option Ticks
  /-- `RESP`, R44 and R166. -/
  resp    : Option Byte
  /-- `FAULT`, R37. -/
  fault   : Option FaultRecord
  /-- `TRACE`, oldest event first, R38. -/
  trace   : List Event
  /-- The parameters of the machine, R8 to R11. -/
  cfg     : Params
  /-- The program `prog[0 .. n-1]`, R23. -/
  prog    : List Word
  /-- The turns to come, the next one first, R7. -/
  sched   : List Turn
  /-- How many turns have been taken from the free value `Config.freeTurn`, R7. -/
  freeTurns : Nat
deriving DecidableEq, Repr

/-- Why the machine stops. -/
inductive Fault where
  /-- Raised by a step, other than a reset, of a state whose `FAULT` is not `none`: "After a fault the engine
  has no step" and the CDT and ADC agents have none either (R171). The step that raised the model fault is
  itself a next state, with `FAULT` written (R170). Safe: the model stops where the spec says the run has
  ended. -/
  | stopped (f : FaultRecord)
deriving DecidableEq, Repr

/-- Why an instruction has no meaning. -/
inductive Refusal where
  /-- Raised by an arm of `exec` whose instruction is not modelled yet; no arm raises it now. Safe. -/
  | notModelled (mnemonic : String)
deriving DecidableEq, Repr

/-- The state right after reset and at launch (R44, R207), with the default parameters (R8 to R11), no
program loaded, and no turn laid down. -/
def State.reset : State where
  cp := 0
  mq := []
  I := false
  shadow := false
  halted := false
  hwait := .any
  color := ⟨none, none, none⟩
  ddata := false
  line := false
  latchok := true
  wdk := 0#3
  wden := false
  wdfresh := false
  wdie := false
  wdif := false
  dspwr := false
  spwr := false
  didr := false
  aden := false
  adsc := false
  adie := false
  adif := false
  adres := none
  sample := none
  naprem := none
  resp := none
  fault := none
  trace := []
  cfg := Params.default
  prog := []
  sched := []
  freeTurns := 0

/-- The outcome of a step or of a meaning. -/
abbrev Result := Host.Outcome State Fault Refusal

end Sys2Proof.Machine
end

