-- ==== Sys2Proof/Machine/Flags.lean ====
section
/-! DEFINITION. The flag computations: which source is pending (R42), when a service is due (R176), which
source it takes (R177), and the writes of the mask and shadow bits (R24, R25). -/
namespace Sys2Proof.Machine

/-- `pend(s)`: the source's flag and enable are both 1 (R42). -/
def State.pend (s : State) : Source → Bool
  | .wdt => s.wdif && s.wdie
  | .adc => s.adif && s.adie

/-- `service_due()` (R176). -/
def State.serviceDue (s : State) : Bool :=
  s.fault.isNone && s.I && !s.shadow && (s.pend .wdt || s.pend .adc)

/-- The pending source of highest priority: `WDT` before `ADC` (R174, R177). -/
def State.highestPending (s : State) : Source :=
  if s.pend .wdt then .wdt else .adc

/-- `flag(s) <- 0` (R178). -/
def State.clearFlag (s : State) : Source → State
  | .wdt => { s with wdif := false }
  | .adc => { s with adif := false }

/-- `I <- b` (R24). -/
def State.setI (s : State) (b : Bool) : State := { s with I := b }

/-- `SHADOW <- b` (R25). -/
def State.setShadow (s : State) (b : Bool) : State := { s with shadow := b }

/-- `I <- 1 ; SHADOW <- 1`, the effect SEI and `uSei` share (R158, R159). -/
def State.enableInterrupts (s : State) : State := (s.setI true).setShadow true

/-- `I <- 0 ; SHADOW <- 0`, the effect CLI and `uCli` share (R156, R157). -/
def State.disableInterrupts (s : State) : State := (s.setI false).setShadow false

/-- The halt that `HWAIT` = w describes is ended by a service of s (R178). -/
def HaltWait.endedBy (w : HaltWait) (s : Source) : Bool :=
  match w, s with
  | .any, _ => true
  | .wdt, .wdt => true
  | .wdt, .adc => false
  | .adc, .wdt => false
  | .adc, .adc => true

end Sys2Proof.Machine
end

