-- ==== Sys2Proof/Machine/Operands.lean ====
section
/-! DEFINITION. The operand forms: the color channel a SETC names (R79, R95), the period of a stage (R84), and
the register map that RDREG reads (R39). -/
namespace Sys2Proof.Machine

/-- The period of stage k, `16 << k` ticks (R11, R84). -/
def stagePeriod (k : Stage) : Ticks := 16#16 <<< k.toNat

/-- `COLOR[ch]` (R27); ⊥ where `ch` is no channel. -/
def Color.get (c : Color) (ch : Channel) : Option Byte :=
  match ch.toNat with
  | 0 => c.c0
  | 1 => c.c1
  | 2 => c.c2
  | _ => none

/-- `COLOR[ch] <- v` (R95); a channel index that is illegal names no entry (R79). -/
def Color.set (c : Color) (ch : Channel) (v : Byte) : Color :=
  match ch.toNat with
  | 0 => { c with c0 := some v }
  | 1 => { c with c1 := some v }
  | 2 => { c with c2 := some v }
  | _ => c

/-- The first channel that holds ⊥, as its register number in the map of R39 (R104's order of tests). -/
def Color.firstUnwritten (c : Color) : Option RegNum :=
  if c.c0.isNone then some 3#4
  else if c.c1.isNone then some 4#4
  else if c.c2.isNone then some 5#4
  else none

/-- One bit as a byte whose bit 0 it is (R15). -/
def bitByte (b : Bool) : Byte := (BitVec.ofBool b).setWidth 8

/-- Register 0 STATUS: 0 `I`, 1 `LATCHOK`, 2 `LINE` (R39). -/
def State.regStatus (s : State) : Byte :=
  bitByte s.I ||| bitByte s.latchok <<< 1 ||| bitByte s.line <<< 2

/-- Register 1 INTCTL: 0 `WDIE`, 1 `WDIF`, 2 `ADIE`, 3 `ADIF` (R39). -/
def State.regIntctl (s : State) : Byte :=
  bitByte s.wdie ||| bitByte s.wdif <<< 1 ||| bitByte s.adie <<< 2 ||| bitByte s.adif <<< 3

/-- Register 2 WDCTL: 2:0 `WDK`, 3 `WDEN` (R39). -/
def State.regWdctl (s : State) : Byte :=
  s.wdk.setWidth 8 ||| bitByte s.wden <<< 3

/-- Register 9 PINCTL: 0 `DDATA`, 1 `DSPWR`, 2 `SPWR`, 3 `DIDR`, 4 `ADEN`, 5 `ADSC` (R39). -/
def State.regPinctl (s : State) : Byte :=
  bitByte s.ddata ||| bitByte s.dspwr <<< 1 ||| bitByte s.spwr <<< 2 ||| bitByte s.didr <<< 3
    ||| bitByte s.aden <<< 4 ||| bitByte s.adsc <<< 5

/-- NAPREM_L, bits 7:0 of `NAPREM` (R39, R64). -/
def napremLow (r : Ticks) : Byte := r.extractLsb' 0 8

/-- NAPREM_H, bits 15:8 of `NAPREM` (R39, R64). -/
def napremHigh (r : Ticks) : Byte := r.extractLsb' 8 8

/-- What reading the register numbered n finds (R39). -/
inductive RegRead where
  /-- The register's 8 bits. -/
  | value (v : Byte)
  /-- The register has a field that is ⊥. -/
  | unwritten
  /-- The number is 10 to 15. -/
  | reserved
deriving DecidableEq, Repr

/-- A register whose only field is `v` or ⊥. -/
def RegRead.ofOption : Option Byte → RegRead
  | some v => .value v
  | none => .unwritten

/-- `reg(n)`: the register map of R39. -/
def State.reg (s : State) (n : RegNum) : RegRead :=
  match n.toNat with
  | 0 => .value s.regStatus
  | 1 => .value s.regIntctl
  | 2 => .value s.regWdctl
  | 3 => .ofOption s.color.c0
  | 4 => .ofOption s.color.c1
  | 5 => .ofOption s.color.c2
  | 6 => .ofOption s.sample
  | 7 => .ofOption (s.naprem.map napremLow)
  | 8 => .ofOption (s.naprem.map napremHigh)
  | 9 => .value s.regPinctl
  | _ => .reserved

end Sys2Proof.Machine
end

