-- ==== Sys2Proof/Machine/Ops.lean ====
section
/-! DEFINITION. The shared operations on the state: emitting an event (R38), completing a command (R22),
entering a halt (R160, R162), raising a model fault (R170), taking an interrupt and returning from it (R178),
whose turn it is (R7, R70), when the run has ended (R208), and the ports (R20, R167). -/
namespace Sys2Proof.Machine

/-- `emit E`: steps only append to `TRACE` (R16, R38). -/
def State.emit (s : State) (e : Event) : State := { s with trace := s.trace ++ [e] }

/-- `cp <- cp + 1` (R16, R22). -/
def State.advance (s : State) : State := { s with cp := s.cp + 1 }

/-- `SHADOW <- 0 ; cp <- cp + 1`, the end of a single-step command and the whole of `uDone` (R22, R150). -/
def State.complete (s : State) : State := (s.setShadow false).advance

/-- `MQ <- q` (R36). -/
def State.setQueue (s : State) (q : List MicroOp) : State := { s with mq := q }

/-- `HALTED <- 1 ; HWAIT <- w ; SHADOW <- 0`, the halt of HALT and of `uHaltUntil` (R160, R162). -/
def State.enterHalt (s : State) (w : HaltWait) : State :=
  { s with halted := true, hwait := w, shadow := false }

/-- `raise F`: `FAULT` <- (code, `CP`, word, register if any) and nothing else; `CP` stays at the faulting
word (R16, R170). -/
def State.raise (s : State) (code : FaultCode) (w : Word) (reg : Option RegNum) : State :=
  { s with fault := some ⟨code, s.cp, w, reg⟩ }

/-- Entry of a service: the interrupted point is the state as it stands, and `I` <- 0 (R178, R179). -/
def State.enterService (s : State) : State := s.setI false

/-- The fixed handler: clear the flag, emit `Serviced(src)`, and end the halt if it waits for `src`
(R178). -/
def State.handle (s : State) (src : Source) : State :=
  let s := (s.clearFlag src).emit (.serviced src)
  if s.halted && s.hwait.endedBy src then { s with halted := false } else s

/-- Return from a service: `I` <- 1, `SHADOW` <- 0, and execution resumes at the interrupted point
(R178, R180). -/
def State.returnFromService (s : State) : State := (s.setI true).setShadow false

/-- `service(src)`: entry, handler and return as one atomic step (R178). -/
def State.service (s : State) (src : Source) : State :=
  ((s.enterService).handle src).returnFromService

/-- The run has ended: `FAULT` is not `none`, or the engine is not halted and has no step left (R208).
A `CP` beyond the program, which no run reaches, counts as its end (log 13). R208 does not say what `WDIF` is in
a state that has ended with `WDEN` = 1: the model keeps the value last written, DESIGN CHOICE, and no claim may
read it (log 29). -/
def State.ended (s : State) : Bool :=
  s.fault.isSome || (!s.halted && s.mq.isEmpty && decide (s.prog.length ≤ s.cp) && !s.serviceDue)

/-- Whose turn it is (R7): the next turn laid down, and past the end of the list a free one (log 3). -/
def State.turn (s : State) : Turn :=
  match s.sched with
  | t :: _ => t
  | [] => Config.freeTurn s.freeTurns

/-- The turn is used up (log 3). -/
def State.passTurn (s : State) : State :=
  match s.sched with
  | _ :: rest => { s with sched := rest }
  | [] => { s with freeTurns := s.freeTurns + 1 }

/-- The launch state of R207 with the program and the turns given (log 1). -/
def State.launch (prog : List Word) (sched : List Turn) : State :=
  { State.reset with prog := prog, sched := sched }

/-- The `DATA` pin: `LINE` when `DDATA` = 1, otherwise not driven (R20, R28). -/
def State.dataPin (s : State) : PinLevel :=
  if s.ddata then (if s.line then .high else .low) else .z

/-- The pin `SPWR_PIN`: `SPWR` when `DSPWR` = 1, otherwise not driven (R20, R33). -/
def State.spwrPin (s : State) : PinLevel :=
  if s.dspwr then (if s.spwr then .high else .low) else .z

/-- `CMD_READY` (R20, R167). -/
def State.cmdReady (s : State) : Bool :=
  s.fault.isNone && !s.halted && s.mq.isEmpty && !s.serviceDue

end Sys2Proof.Machine
end

