-- ==== Sys2Proof/Machine/Agents.lean ====
section
/-! DEFINITION. The agents beside the engine (R7): the steps *expire* of CDT (R119), *convert* of ADC (R141)
and *reset* of the environment (R200). An agent that is given a turn while it has no step passes (log 5). -/
namespace Sys2Proof.Machine

/-- *expire* is enabled: `WDEN` = 1 and the run has not ended (R119), so that `WDIF` stays as it is after the
end, though the chip's countdown goes on (log 29). -/
def State.expireEnabled (s : State) : Bool := s.wden && !s.ended

/-- *expire* (R119). -/
def State.expire (s : State) : State :=
  ({ s with wdif := true, latchok := s.latchok || s.wdfresh }).emit (.expire s.wdk)

/-- *convert* is enabled: `ADSC` = 1, `ADEN` = 1 and the run has not ended (R141). -/
def State.convertEnabled (s : State) : Bool := s.adsc && s.aden && !s.ended

/-- *convert(v)* (R141). -/
def State.convert (s : State) (v : Byte) : State :=
  { s with adres := some v, adsc := false, adif := true }

/-- The reset values of R44; `FAULT` and `TRACE`, and what is no state of the block (parameters, program,
schedule), are kept (R200). -/
def State.toResetValues (s : State) : State :=
  { State.reset with
    fault := s.fault, trace := s.trace
    cfg := s.cfg, prog := s.prog, sched := s.sched, freeTurns := s.freeTurns }

/-- *reset*: emits `Reset`, and `Line(Z)` if `DDATA` was 1 (R200; the order is that of vector X1, log 14). -/
def State.resetStep (s : State) : State :=
  let s' := s.toResetValues.emit .reset
  if s.ddata then s'.emit (.line .z) else s'

/-- CDT's turn. -/
def countdownTurn (s : State) : Result :=
  match s.fault with
  | some f => .fault (.stopped f)
  | none => .next (if s.expireEnabled then s.expire else s)

/-- ADC's turn, with the draw v of R144. -/
def converterTurn (v : Byte) (s : State) : Result :=
  match s.fault with
  | some f => .fault (.stopped f)
  | none => .next (if s.convertEnabled then s.convert v else s)

/-- The environment's turn: reset is enabled in every state (R200). -/
def resetTurn (s : State) : Result := .next s.resetStep

end Sys2Proof.Machine
end

