-- ==== Sys2Proof/Machine/Control.lean ====
section
/-! DEFINITION. The control commands NOP, INIT, CLI, SEI, HALT and RDREG (R152 to R166). -/
namespace Sys2Proof.Machine

/-- NOP (R152). -/
def execNop (s : State) : Result := .next s.complete

/-- INIT: `Line(0)` if the pin was not driven, then the pin set-up (R154). -/
def execInit (s : State) : Result :=
  let s := if s.ddata then s else s.emit (.line .low)
  .next ({ s with ddata := true, line := false, dspwr := true, spwr := false, didr := true }).complete

/-- CLI (R156). -/
def execCli (s : State) : Result := .next s.disableInterrupts.advance

/-- SEI (R158). -/
def execSei (s : State) : Result := .next s.enableInterrupts.advance

/-- HALT: the halt is entered in this step, and `uDone` is queued (R160). -/
def execHalt (s : State) : Result := .next ((s.enterHalt .any).setQueue [.uDone])

/-- RDREG (R166). `RN` > 9 is `Illegal` (R83, R87; log 10). -/
def execRdreg (rn : RegNum) (s : State) : Result :=
  match s.reg rn with
  | .value v => .next (({ s with resp := some v }).emit (.resp rn v)).complete
  | .unwritten => .next (s.raise .unwritten (encode (.rdreg rn)) (some rn))
  | .reserved => .next (s.raise .illegal (encode (.rdreg rn)) none)

end Sys2Proof.Machine
end

