-- ==== Sys2Proof/Machine/Scheduler.lean ====
section
/-! DEFINITION. The countdown and scheduler commands WDCFG, WDSTOP and NAP (R115 to R133), the ladder (R120)
and the micro-operations NAP queues (R125, R126). -/
namespace Sys2Proof.Machine

/-- `arm(k)` (R116). -/
def State.arm (s : State) (k : Stage) : State :=
  { s with wdk := k, wden := true, wdie := true, wdif := false, wdfresh := true }

/-- `disarm()` (R118). -/
def State.disarm (s : State) : State :=
  { s with wden := false, wdie := false, wdif := false }

/-- WDCFG (R116). `K` > `KMAX` is `Illegal` (R81, R87; log 10). -/
def execWdcfg (k : Stage) (s : State) : Result :=
  if Stage.legal s.cfg.kmax k then .next (s.arm k).complete
  else .next (s.raise .illegal (encode (.wdcfg k)) none)

/-- WDSTOP (R118). -/
def execWdstop (s : State) : Result := .next s.disarm.complete

/-- `while rem >= p: ks <- ks ++ [k] ; rem <- rem - p` for one stage (R120), with `fuel` bounding the
iterations. -/
def takeStage (k : Stage) : Nat → Ticks → List Stage × Ticks
  | 0, rem => ([], rem)
  | fuel + 1, rem =>
    if stagePeriod k ≤ rem then
      let (ks, rem') := takeStage k fuel (rem - stagePeriod k)
      (k :: ks, rem')
    else ([], rem)

/-- The stages n, n-1, .. 0 (R120: `for k <- KMAX downto 0`). -/
def stagesDown : Nat → List Stage
  | 0 => [0#3]
  | n + 1 => BitVec.ofNat 3 (n + 1) :: stagesDown n

/-- The loop of R120 over the stages that are left. A 16-bit remainder holds at most 2^16 / 16 = 4096
periods of any stage, so that fuel never runs out. -/
def ladderFrom : List Stage → Ticks → List Stage × Ticks
  | [], rem => ([], rem)
  | k :: stages, rem =>
    let (ks, rem') := takeStage k 4096 rem
    let (ks', rem'') := ladderFrom stages rem'
    (ks ++ ks', rem'')

/-- `ladder(t)` (R120): the stages in order, and the residual. -/
def ladder (kmax : MaxStage) (t : Ticks) : List Stage × Ticks :=
  ladderFrom (stagesDown kmax.toNat) t

/-- `stage_mops(k)` (R126). -/
def stageMops (k : Stage) : List MicroOp :=
  [.uArm k, .uSei, .uHaltUntil .wdt, .uCli, .uSub k]

/-- The queue of NAP t (R128). -/
def napQueue (kmax : MaxStage) (t : Ticks) : List MicroOp :=
  .uSetRem t :: ((ladder kmax t).1.flatMap stageMops ++ [.uDisarm, .uCli, .uDone])

/-- NAP, the step that performs the fetched word: `CP` is not advanced here (R128). -/
def execNap (t : Ticks) (s : State) : Result :=
  .next ((s.setQueue (napQueue s.cfg.kmax t)).setShadow false)

/-- `uSetRem(v)` (R125). -/
def State.doSetRem (s : State) (v : Ticks) : State :=
  ({ s with naprem := some v }).setShadow false

/-- `uArm(k)` (R125). -/
def State.doArm (s : State) (k : Stage) : State := (s.arm k).setShadow false

/-- `uSub(k)` (R125). A remainder that is ⊥, which no run reaches, stays ⊥ (log 12). -/
def State.doSub (s : State) (k : Stage) : State :=
  (({ s with naprem := s.naprem.map (· - stagePeriod k) }).emit (.slept k)).setShadow false

/-- `uDisarm` (R125). -/
def State.doDisarm (s : State) : State := s.disarm.setShadow false

end Sys2Proof.Machine
end

