-- ==== Sys2Proof/Machine/Sensor.lean ====
section
/-! DEFINITION. The light-sensor interface: SAMPLE and the micro-operations it queues (R142, R143). -/
namespace Sys2Proof.Machine

/-- The queue of SAMPLE (R142). -/
def sampleQueue : List MicroOp :=
  [.uSensOn, .uAdcStart, .uSei, .uHaltUntil .adc, .uCli, .uRead, .uSensOff, .uDone]

/-- SAMPLE, the step that performs the fetched word: `NotInit` before anything is queued (R142). -/
def execSample (s : State) : Result :=
  if s.dspwr then .next ((s.setQueue sampleQueue).setShadow false)
  else .next (s.raise .notInit (encode .sample) none)

/-- `uSensOn` (R143). -/
def State.doSensOn (s : State) : State :=
  (({ s with spwr := true }).emit (.sense true)).setShadow false

/-- `uAdcStart` (R143). -/
def State.doAdcStart (s : State) : State :=
  ({ s with aden := true, adie := true, adif := false, adsc := true }).setShadow false

/-- `uRead` (R143): `SAMPLE` takes what `ADRES` holds, ⊥ included (log 11). -/
def State.doRead (s : State) : State :=
  (({ s with sample := s.adres }).emit (.sampled s.adres)).setShadow false

/-- `uSensOff` (R143). -/
def State.doSensOff (s : State) : State :=
  (({ s with adsc := false, aden := false, adie := false, adif := false, spwr := false }).emit
    (.sense false)).setShadow false

end Sys2Proof.Machine
end

