-- ==== Sys2Proof/Machine/Transmitter.lean ====
section
/-! DEFINITION. The transmitter commands SETC, SETRGB and TX (R95 to R105) and the waveform of a frame
(R98 to R101). -/
namespace Sys2Proof.Machine

/-- SETC (R95). `CH` = 3 is `Illegal` (R79, R87; log 10). -/
def execSetc (ch : Channel) (v : Byte) (s : State) : Result :=
  if Channel.legal ch then .next ({ s with color := s.color.set ch v }).complete
  else .next (s.raise .illegal (encode (.setc ch v)) none)

/-- SETRGB: the three writes are one step (R97, R66). -/
def execSetrgb (v0 v1 v2 : Byte) (s : State) : Result :=
  .next ({ s with color := ⟨some v0, some v1, some v2⟩ }).complete

/-- `TH(b)`, the high time of a bit in cycles (R98). -/
def highCycles (p : Params) (b : Bool) : Nat := if b then p.t1h else p.t0h

/-- The low time of a bit, `TBIT - TH(b)` cycles (R98, R99). -/
def lowCycles (p : Params) (b : Bool) : Nat := p.tbit - highCycles p b

/-- The byte of channel `i div 8` (R100). -/
def frameByte (c0 c1 c2 : Byte) : Nat → Byte
  | 0 => c0
  | 1 => c1
  | _ => c2

/-- `frame_bits(c0, c1, c2)`: bit i is `c[i div 8][7 - (i mod 8)]`, i = 0 .. 23 in time order (R62, R100). -/
def frameBits (c0 c1 c2 : Byte) : List Bool :=
  (List.range 24).map fun i => (frameByte c0 c1 c2 (i / 8)).getLsbD (7 - i % 8)

/-- The loop body of TX for one bit: a high pulse, then a low pulse (R98, R104). -/
def State.sendBit (s : State) (b : Bool) : State :=
  let s := ({ s with line := true }).emit (.seg true (highCycles s.cfg b))
  ({ s with line := false }).emit (.seg false (lowCycles s.cfg b))

/-- TX past its tests: mask, send the 24 bits, record the frame, restore the mask (R104). -/
def State.transmit (s : State) (c0 c1 c2 : Byte) : State :=
  let saved := s.I
  let fresh := s.latchok
  let s := (frameBits c0 c1 c2).foldl State.sendBit (s.setI false)
  let s := s.emit (.frame c0 c1 c2 fresh)
  let s := { s with latchok := false, wdfresh := false }
  (s.setI saved).complete

/-- TX: `NotInit` is tested before `Unwritten` (R104, R173). -/
def execTx (s : State) : Result :=
  if s.ddata then
    match s.color.c0, s.color.c1, s.color.c2 with
    | some c0, some c1, some c2 => .next (s.transmit c0 c1 c2)
    | _, _, _ => .next (s.raise .unwritten (encode .tx) s.color.firstUnwritten)
  else .next (s.raise .notInit (encode .tx) none)

end Sys2Proof.Machine
end

