-- ==== Sys2Proof/Machine/Dispatch.lean ====
section
/-! DEFINITION. The fetch step of a command (R151): one arm per constructor of Instr, one meaning each. -/
namespace Sys2Proof.Machine

def exec (i : Instr) (s : State) : Host.Outcome State Fault Refusal :=
  match i with
  | .nop => Sys2Proof.Machine.execNop s
  | .init => Sys2Proof.Machine.execInit s
  | .setc ch v => Sys2Proof.Machine.execSetc ch v s
  | .setrgb v0 v1 v2 => Sys2Proof.Machine.execSetrgb v0 v1 v2 s
  | .tx => Sys2Proof.Machine.execTx s
  | .cli => Sys2Proof.Machine.execCli s
  | .sei => Sys2Proof.Machine.execSei s
  | .halt => Sys2Proof.Machine.execHalt s
  | .wdcfg k => Sys2Proof.Machine.execWdcfg k s
  | .wdstop => Sys2Proof.Machine.execWdstop s
  | .nap t => Sys2Proof.Machine.execNap t s
  | .sample => Sys2Proof.Machine.execSample s
  | .rdreg rn => Sys2Proof.Machine.execRdreg rn s

end Sys2Proof.Machine
end

