-- ==== Sys2Proof/Machine/MicroOps.lean ====
section
/-! DEFINITION. Performing one micro-operation of `MQ` (R36, R151). -/
namespace Sys2Proof.Machine

/-- `perform m` (R151), each micro-operation by the rule of the command that queues it: R125, R143, R150,
R157, R159, R162. -/
def State.perform (s : State) : MicroOp → State
  | .uArm k => s.doArm k
  | .uSei => s.enableInterrupts
  | .uCli => s.disableInterrupts
  | .uHaltUntil w => s.enterHalt w
  | .uSub k => s.doSub k
  | .uSetRem v => s.doSetRem v
  | .uDisarm => s.doDisarm
  | .uSensOn => s.doSensOn
  | .uAdcStart => s.doAdcStart
  | .uRead => s.doRead
  | .uSensOff => s.doSensOff
  | .uDone => s.complete

end Sys2Proof.Machine
end

