-- ==== Sys2Proof/Machine/Engine.lean ====
section
/-! DEFINITION. The command engine's step (R151), the step of the agent whose turn it is (R7, R70), and
laying a word where the engine fetches next. -/
namespace Sys2Proof.Machine

/-- The fetch of `prog[CP]`: an illegal word raises `Illegal` before any effect (R87, R151). -/
def fetchStep (w : Word) (s : State) : Result :=
  match decode s.cfg.kmax w with
  | .ok i => exec i s
  | .error _ => .next (s.raise .illegal w none)

/-- `engine_step`, its cases tested in the order of R151. Where the engine has no step though no fault stands
(halted, or at the end of the program) its turn passes (log 5). The service comes first between the micro-operations of a NAP or SAMPLE too: of one
entered with `I` = 1 it may come before `uSei`, and what R126 and R215 say of its halt does not hold then
(DESIGN CHOICE between rules that disagree: logs 28 and 18). -/
def engineTurn (s : State) : Result :=
  match s.fault with
  | some f => .fault (.stopped f)
  | none =>
    if s.serviceDue then .next (s.service s.highestPending)
    else if s.halted then .next s
    else
      match s.mq with
      | m :: rest => .next ((s.setQueue rest).perform m)
      | [] =>
        match s.prog[s.cp]? with
        | some w => fetchStep w s
        | none => .next s

/-- The step of the agent whose turn it is (R70). -/
def agentStep (s : State) : Result :=
  match s.turn with
  | .engine => engineTurn s.passTurn
  | .expire => countdownTurn s.passTurn
  | .convert v => converterTurn v s.passTurn
  | .reset => resetTurn s.passTurn

/-- The program with the word at index `cp`, filled up with NOP words where it is shorter. -/
def programWith (prog : List Word) (cp : Nat) (w : Word) : List Word :=
  if cp < prog.length then prog.set cp w
  else prog ++ List.replicate (cp - prog.length) (encode .nop) ++ [w]

/-- The word stands at `prog[CP]`, it is the engine's turn, and nothing that R151 tests before the fetch
holds: no fault, no due service (`SHADOW` holds one off for one command, R25), no halt, an empty queue
(log 25). -/
def State.withWordAtFetch (s : State) (w : Word) : State :=
  { s with
    prog := programWith s.prog s.cp w
    sched := .engine :: s.sched
    fault := none
    shadow := s.shadow || ({ s with fault := none } : State).serviceDue
    halted := false
    mq := [] }

end Sys2Proof.Machine
end

