-- ==== Sys2Proof/Machine/Step.lean ====
section
/-! DEFINITION. One step of the block: the step of the agent whose turn it is (R7, R70). -/
namespace Sys2Proof.Machine

def step (s : State) : Host.Outcome State Fault Refusal := agentStep s

/-- `s` with the instruction whose bits are `w`, `nbits` of them (every bit above being 0), stored where `step`
fetches its next instruction, as the program loaded from outside would store it (log 25). -/
def State.withFetchWord (s : State) (nbits w : Nat) : State := s.withWordAtFetch (tableWord nbits w)

end Sys2Proof.Machine
end

