-- ==== Sys2Proof/Machine/Assembler.lean ====
section
/-! DEFINITION. Assembly source of T2C v1: line syntax (R90), operand syntax and ranges (R91), and the
pseudo-instructions (R92). Readings the spec leaves open are in log 20. -/
namespace Sys2Proof.Machine

/-- Why a line assembles to nothing (R91). -/
inductive AsmError where
  /-- The mnemonic is none of R91 and R92. -/
  | unknownMnemonic
  /-- The mnemonic does not take this many operands. -/
  | operandCount
  /-- An operand is neither a number nor, for RDREG, the name of a register. -/
  | badOperand
  /-- "An operand outside its range is an assembly error" (R91). -/
  | operandRange
  /-- What stands before a `:` is no name. -/
  | badLabel
deriving DecidableEq, Repr

/-- `SHOW v0, v1, v2` (R92). -/
def pseudoShow (v0 v1 v2 : Byte) : List Instr := [.setrgb v0 v1 v2, .tx]

/-- `OFF` (R92). -/
def pseudoOff : List Instr := [.setrgb 0#8 0#8 0#8, .tx]

/-- `WAITI` (R92). -/
def pseudoWaiti : List Instr := [.sei, .halt, .cli]

/-- `STAGE k` (R92). -/
def pseudoStage (k : Stage) : List Instr := [.wdcfg k, .sei, .halt, .cli]

/-- White space inside a line (log 20). -/
def isBlankChar (c : Char) : Bool := c == ' ' || c == '\t' || c == '\r'

/-- A character of a label's name (log 20). -/
def isNameChar (c : Char) : Bool := c.isAlphanum || c == '_'

/-- A text without the white space around it. -/
def trimBlanks (cs : List Char) : List Char :=
  ((cs.dropWhile isBlankChar).reverse.dropWhile isBlankChar).reverse

/-- The pieces between separators. -/
def splitAtChar (sep : Char) : List Char → List (List Char)
  | [] => [[]]
  | c :: cs =>
    if c = sep then [] :: splitAtChar sep cs
    else
      match splitAtChar sep cs with
      | [] => [[c]]
      | piece :: pieces => (c :: piece) :: pieces

/-- The value of a decimal or hexadecimal digit; `a` to `f` and `A` to `F` alike (DESIGN CHOICE, log 20: R90
gives the prefix `0x` and says nothing of the digits' case). -/
def digitValue (c : Char) : Option Nat :=
  if '0' ≤ c ∧ c ≤ '9' then some (c.toNat - '0'.toNat)
  else if 'a' ≤ c ∧ c ≤ 'f' then some (c.toNat - 'a'.toNat + 10)
  else if 'A' ≤ c ∧ c ≤ 'F' then some (c.toNat - 'A'.toNat + 10)
  else none

/-- Digits of the base, most significant first, after the value so far. -/
def parseDigits (base : Nat) : Nat → List Char → Option Nat
  | acc, [] => some acc
  | acc, c :: cs =>
    match digitValue c with
    | some d => if d < base then parseDigits base (acc * base + d) cs else none
    | none => none

/-- "Numbers are decimal or hexadecimal with the prefix `0x`" (R90). -/
def parseNumber : List Char → Option Nat
  | '0' :: 'x' :: d :: ds => parseDigits 16 0 (d :: ds)
  | d :: ds => parseDigits 10 0 (d :: ds)
  | [] => none

/-- The names of registers 0 to 9 (R39), which RDREG takes as operands (R91). -/
def registerNames : List String :=
  ["STATUS", "INTCTL", "WDCTL", "COLOR0", "COLOR1", "COLOR2", "SAMPLE", "NAPREM_L", "NAPREM_H", "PINCTL"]

/-- A numeric operand that is at most `max`. -/
def numberOperand (max : Nat) (cs : List Char) : Except AsmError Nat :=
  match parseNumber cs with
  | some n => if n ≤ max then .ok n else .error .operandRange
  | none => .error .badOperand

/-- The operand of RDREG: a number 0 to 9 or a register's name (R91). -/
def registerOperand (cs : List Char) : Except AsmError Nat :=
  match registerNames.findIdx? (fun name => name.toList == cs) with
  | some n => .ok n
  | none => numberOperand 9 cs

/-- The commands of one mnemonic and its operands (R91, R92). -/
def assembleCommand (kmax : MaxStage) (mnemonic : List Char) (ops : List (List Char)) :
    Except AsmError (List Instr) :=
  let none (is : List Instr) : Except AsmError (List Instr) :=
    if ops.isEmpty then .ok is else .error .operandCount
  let stage (f : Stage → List Instr) : Except AsmError (List Instr) :=
    match ops with
    | [k] => do
      let k ← numberOperand kmax.toNat k
      return f (BitVec.ofNat 3 k)
    | _ => .error .operandCount
  let bytes (f : Byte → Byte → Byte → List Instr) : Except AsmError (List Instr) :=
    match ops with
    | [a, b, c] => do
      let a ← numberOperand 255 a
      let b ← numberOperand 255 b
      let c ← numberOperand 255 c
      return f (BitVec.ofNat 8 a) (BitVec.ofNat 8 b) (BitVec.ofNat 8 c)
    | _ => .error .operandCount
  if mnemonic = "NOP".toList then none [.nop]
  else if mnemonic = "INIT".toList then none [.init]
  else if mnemonic = "SETC".toList then
    match ops with
    | [ch, v] => do
      let ch ← numberOperand 2 ch
      let v ← numberOperand 255 v
      return [.setc (BitVec.ofNat 2 ch) (BitVec.ofNat 8 v)]
    | _ => .error .operandCount
  else if mnemonic = "SETRGB".toList then bytes fun a b c => [.setrgb a b c]
  else if mnemonic = "TX".toList then none [.tx]
  else if mnemonic = "CLI".toList then none [.cli]
  else if mnemonic = "SEI".toList then none [.sei]
  else if mnemonic = "HALT".toList then none [.halt]
  else if mnemonic = "WDCFG".toList then stage fun k => [.wdcfg k]
  else if mnemonic = "WDSTOP".toList then none [.wdstop]
  else if mnemonic = "NAP".toList then
    match ops with
    | [t] => do
      let t ← numberOperand 65535 t
      return [.nap (BitVec.ofNat 16 t)]
    | _ => .error .operandCount
  else if mnemonic = "SAMPLE".toList then none [.sample]
  else if mnemonic = "RDREG".toList then
    match ops with
    | [rn] => do
      let rn ← registerOperand rn
      return [.rdreg (BitVec.ofNat 4 rn)]
    | _ => .error .operandCount
  else if mnemonic = "SHOW".toList then bytes pseudoShow
  else if mnemonic = "OFF".toList then none pseudoOff
  else if mnemonic = "WAITI".toList then none pseudoWaiti
  else if mnemonic = "STAGE".toList then stage pseudoStage
  else .error .unknownMnemonic

/-- A line after its label, "a name followed by `:`", which is a comment for the reader only
(R90). R90 does not say how many labels a line may have or whether blanks may stand before the colon: at most
one, and they may, DESIGN CHOICE (log 20). -/
def dropLabel (cs : List Char) : Except AsmError (List Char) :=
  if cs.elem ':' then
    let name := trimBlanks (cs.takeWhile (· ≠ ':'))
    match name with
    | c :: _ =>
      if name.all isNameChar && !c.isDigit then .ok ((cs.dropWhile (· ≠ ':')).drop 1)
      else .error .badLabel
    | [] => .error .badLabel
  else .ok cs

/-- One line: "a mnemonic, then its operands separated by commas", a `;` starting a comment (R90). -/
def assembleLine (kmax : MaxStage) (line : List Char) : Except AsmError (List Instr) := do
  let body := trimBlanks (← dropLabel (line.takeWhile (· ≠ ';')))
  if body.isEmpty then return []
  let operands := trimBlanks (body.dropWhile (!isBlankChar ·))
  assembleCommand kmax (body.takeWhile (!isBlankChar ·))
    (if operands.isEmpty then [] else (splitAtChar ',' operands).map trimBlanks)

/-- Lines in order; the first error stands for all of them, and no word is emitted of the
whole source (R91 says it of the operand's own command; DESIGN CHOICE, log 20). -/
def assembleLines (kmax : MaxStage) : List (List Char) → Except AsmError (List Instr)
  | [] => .ok []
  | line :: lines => do
    let is ← assembleLine kmax line
    let rest ← assembleLines kmax lines
    return is ++ rest

/-- The command words of an assembly source (R90 to R92). -/
def assemble (kmax : MaxStage) (src : List Char) : Except AsmError (List Word) := do
  let is ← assembleLines kmax (splitAtChar '\n' src)
  return is.map encode

end Sys2Proof.Machine
end

