-- ==== Sys2Proof/Safety.lean ====
section
/-! DEFINITION. What claims about the block are stated in: the invariant of its runs, the LED's view of a
trace (R106, R107, R202), the timing figures that no step reads (R103, R108, R109, R214), and the canonical
schedules of 95_test_vectors.md under which NAP and SAMPLE run. -/
namespace Sys2Proof.Machine

/-! ### The invariant -/

/-- The queue is what is left of the queue of one long command (R36, R128, R142, R160). -/
def queueShape (kmax : MaxStage) (mq : List MicroOp) : Prop :=
  mq <:+ [.uDone] ∨ mq <:+ sampleQueue ∨ ∃ t, mq <:+ napQueue kmax t

/-- The nominal ticks of the stages that the queue has still to account for (R125). -/
def ticksToAccount : List MicroOp → Nat
  | [] => 0
  | .uSub k :: mq => 16 * 2 ^ k.toNat + ticksToAccount mq
  | _ :: mq => ticksToAccount mq

/-- The queue is inside a stage of NAP whose countdown has been armed and whose halt is still to come
(R126). -/
def stageArmed (mq : List MicroOp) : Prop :=
  (∃ rest, mq = .uSei :: .uHaltUntil .wdt :: rest) ∨ ∃ rest, mq = .uHaltUntil .wdt :: rest

/-- The invariant of every run from launch. -/
structure State.Inv (s : State) : Prop where
  /-- `MQ` holds the rest of one command's queue (R36). -/
  queue : queueShape s.cfg.kmax s.mq
  /-- `CP` is an index of the program or its end (R22, R23). -/
  cpInProgram : s.cp ≤ s.prog.length
  /-- While a command is in progress `CP` holds its index (R22). -/
  cpAtCommand : s.mq ≠ [] → s.cp < s.prog.length
  /-- A halt belongs to a command in progress (R22, R26). -/
  haltInCommand : s.halted = true → s.mq ≠ []
  /-- A fault is raised by a fetch, with no command in progress (R151, R170). -/
  faultAtFetch : s.fault ≠ none → s.mq = [] ∧ s.halted = false
  /-- The SEI shadow stands only while interrupts are enabled (R25, R158, R159). -/
  shadowEnabled : s.shadow = true → s.I = true
  /-- "at every command boundary `LINE` = 0" (R28). -/
  lineLow : s.line = false
  /-- "Values above `KMAX` are never stored" in `WDK` (R30). -/
  stageLegal : s.wdk.toNat ≤ s.cfg.kmax.toNat
  /-- The countdown runs exactly while its interrupt is enabled (R116, R118; vector H9). -/
  countdownEnabled : s.wdie = s.wden
  /-- The countdown's flag stands only while the countdown runs (R116, R118, R119). -/
  countdownFlag : s.wdif = true → s.wden = true
  /-- INIT sets the pin directions and the input buffer together, reset clears them together (R154, R200). -/
  pinsTogether : s.dspwr = s.ddata ∧ s.didr = s.ddata
  /-- The sensor supply is on exactly inside SAMPLE, from `uSensOn` to `uSensOff` (R145, R196). -/
  supplyInSample : s.spwr = true ↔ .uSensOff ∈ s.mq ∧ .uSensOn ∉ s.mq
  /-- The analog front end is on exactly inside SAMPLE, from `uAdcStart` to `uSensOff` (R145). -/
  frontEndInSample : s.aden = true ↔ .uSensOff ∈ s.mq ∧ .uAdcStart ∉ s.mq
  /-- The conversion-complete interrupt is enabled exactly while the front end is on (R143). -/
  converterEnabled : s.adie = s.aden
  /-- A conversion is in progress, or its flag stands, only while the front end is on (R143). -/
  converterBusy : s.adsc = true ∨ s.adif = true → s.aden = true
  /-- The supply is switched only after INIT (R142, R154). -/
  supplyAfterInit : .uSensOn ∈ s.mq ∨ s.spwr = true → s.dspwr = true
  /-- convert writes `ADRES` with the flag (R141). -/
  flagHasResult : s.adif = true → s.adres.isSome = true
  /-- "`ADRES` is never ⊥ at `uRead`" (R143). -/
  readHasResult : .uRead ∈ s.mq →
    .uHaltUntil .adc ∈ s.mq ∨ (s.halted = true ∧ s.hwait = .adc) ∨ s.adres.isSome = true
  /-- A micro-operation's halt is entered with interrupts enabled (R126, R142). -/
  haltEnabled : ∀ w rest, s.mq = .uHaltUntil w :: rest → s.I = true
  /-- A stage is halted for with its countdown running (R126). -/
  stageRunning : stageArmed s.mq → s.wden = true
  /-- NAP's halt can be ended: interrupts are enabled and the countdown runs (R215). -/
  napHaltEnds : s.halted = true → s.hwait = .wdt → s.I = true ∧ s.wden = true
  /-- SAMPLE's halt waits with interrupts and the source's enable on. -/
  sampleHaltEnabled : s.halted = true → s.hwait = .adc → s.I = true ∧ s.adie = true
  /-- During NAP, `NAPREM` is what the stages left will account for, and a residual below 16 (R35, R122). -/
  napremAccounts : .uDisarm ∈ s.mq → (∀ v, .uSetRem v ∉ s.mq) →
    ∃ r, s.naprem = some r ∧ ticksToAccount s.mq ≤ r.toNat ∧ r.toNat < ticksToAccount s.mq + 16

/-! ### The LED -/

/-- What an LED receiver has made of a trace: whether a later `fresh` mark is to be trusted, whether any bit
has been sent, and the frame it would take. -/
structure LedView where
  sound : Bool
  sent  : Bool
  frame : Option (Byte × Byte × Byte)
deriving DecidableEq, Repr

/-- The view at launch: "the reset value `LATCHOK` = 1 is sound only at launch" (R202). -/
def LedView.launch : LedView := ⟨true, false, none⟩

/-- One event (R106, R202; log 19). The lengths of the segments are not looked at: that no low period inside a
frame exceeds the latch threshold (R107) is a premise of `State.LedShows` (DESIGN CHOICE, log 27). A
frame is taken only when it is fresh and the mark is sound; a reset after any segment makes the mark unsound
until an expiry or a further frame. -/
def LedView.see (v : LedView) : Event → LedView
  | .seg _ _ => { v with sent := true }
  | .frame c0 c1 c2 fresh => ⟨true, v.sent, if fresh && v.sound then some (c0, c1, c2) else none⟩
  | .expire _ => { v with sound := true }
  | .reset => if v.sent then ⟨false, true, none⟩ else v
  | .line _ | .slept _ | .serviced _ | .sense _ | .sampled _ | .resp _ _ => v

/-- The fresh frame that `LATCHOK` shows latched (R29, R106). What the LED shows is `State.LedShows`, which adds
the premises. From a TX until its own frame is latched there is none: R106 does not say what shows meanwhile, and
the model drops the earlier frame at the TX and claims nothing (DESIGN CHOICE, log 19). -/
def State.latchedFrame (s : State) : Option (Byte × Byte × Byte) :=
  if s.latchok then (s.trace.foldl LedView.see LedView.launch).frame else none

/-- What a receiver that measures high pulses reads from a waveform: a bit for every high segment, 1 when it
lasts as long as a 1 bit's high time (R98). -/
def receivedBits (p : Params) : List Event → List Bool
  | [] => []
  | .seg true cycles :: es => decide (cycles = p.t1h) :: receivedBits p es
  | .seg false _ :: es => receivedBits p es
  | .frame _ _ _ _ :: es => receivedBits p es
  | .line _ :: es => receivedBits p es
  | .expire _ :: es => receivedBits p es
  | .slept _ :: es => receivedBits p es
  | .serviced _ :: es => receivedBits p es
  | .sense _ :: es => receivedBits p es
  | .sampled _ :: es => receivedBits p es
  | .resp _ _ :: es => receivedBits p es
  | .reset :: es => receivedBits p es

/-- The number whose bits are these, the most significant first (R62). -/
def bitsValue (bs : List Bool) : Nat := bs.foldl (fun n b => 2 * n + b.toNat) 0

/-- The clock cycles that the segments among these events last (R45). -/
def segCycles : List Event → Nat
  | [] => 0
  | .seg _ cycles :: es => cycles + segCycles es
  | .frame _ _ _ _ :: es => segCycles es
  | .line _ :: es => segCycles es
  | .expire _ :: es => segCycles es
  | .slept _ :: es => segCycles es
  | .serviced _ :: es => segCycles es
  | .sense _ :: es => segCycles es
  | .sampled _ :: es => segCycles es
  | .resp _ _ :: es => segCycles es
  | .reset :: es => segCycles es

end Sys2Proof.Machine

namespace Sys2Proof

/-! ### Figures no step reads: the channel map, times -/

/-- The intensity of a physical colour when the LED shows these channel bytes through a channel map
(R14, R106). -/
def ChannelMap.intensity (m : ChannelMap) (c : Byte × Byte × Byte) (p : Primary) : Byte :=
  if m.colors.1 = p then c.1 else if m.colors.2.1 = p then c.2.1 else c.2.2

/-- `cycles × 10^9 / CLK_HZ`, the nominal nanoseconds (R8, R103, R109), rounded down. -/
def Params.nanoseconds (p : Params) (cycles : Nat) : Nat := cycles * 1000000000 / p.clkHz

/-- `T_RESET`, the latch threshold in cycles (R10), rounded down. -/
def Params.resetCycles (p : Params) : Nat := p.tResetNs * p.clkHz / 1000000000

/-- A measured time of `ns` nanoseconds is within `T_TOL_NS` of the nominal time of `cycles`, without rounding
(R103). R103 names no number domain for a measured time: any real number here, DESIGN CHOICE (log 26). -/
def Params.withinTolerance (p : Params) (cycles : Nat) (ns : ℝ) : Prop :=
  |ns - cycles * 1000000000 / p.clkHz| ≤ p.tTolNs

/-- The duration of TX in cycles, `24 × TBIT` plus `T_TXOVH` (R108, R220). -/
def Params.txCycles (p : Params) : Nat := 24 * p.tbit + Config.txOverheadCycles

/-- The premise of the latch rule: `16 × TICK_S ≥ T_RESET_NS × 10^-9` (R214), for a tick of `tick` seconds. -/
def Params.latchPremise (p : Params) (tick : ℝ) : Prop := (p.tResetNs : ℝ) / 1000000000 ≤ 16 * tick

end Sys2Proof

namespace Sys2Proof.Machine

/-! ### What the light shows -/

/-- No low period inside a frame is longer than the latch threshold (R107), without rounding. R107 says that TX
never sends a frame with one; for parameters that R9 admits and that break this, the model claims nothing of the
light (DESIGN CHOICE, log 27). -/
def frameUnbroken (p : Params) : Prop :=
  ∀ b, lowCycles p b * 1000000000 ≤ p.tResetNs * p.clkHz

/-- The LED is known to show the channel bytes c, for a tick of `tick` seconds: the premise of R214 holds, no
frame is broken (R107), and a fresh frame of these bytes has been latched (R106). It holds of no c where the spec
makes no claim (R106, R202). The machine's own tick is `Config.tickSeconds`. -/
def State.LedShows (s : State) (tick : ℝ) (c : Byte × Byte × Byte) : Prop :=
  s.cfg.latchPremise tick ∧ frameUnbroken s.cfg ∧ s.latchedFrame = some c

/-! ### Runs -/

/-- The engine has a step (R151). -/
def State.engineEnabled (s : State) : Bool := s.serviceDue || (!s.halted && !s.ended)

/-- The n-th step of a run, by the agent that `turns n` names (R207). -/
def RunStep (turns : Nat → Turn) (run : Nat → State) (n : Nat) : Prop :=
  step { run n with sched := [turns n] } = .next (run (n + 1))

/-- An infinite run (R207). -/
def IsRun (turns : Nat → Turn) (run : Nat → State) : Prop := ∀ n, RunStep turns run n

/-- The engine is halted from the n-th state up to the m-th. -/
def HaltedUpTo (run : Nat → State) (n m : Nat) : Prop := ∀ j, n ≤ j → j ≤ m → (run j).halted = true

/-- Weak fairness (R7, D15, D33; log 4): no agent but the environment stays enabled for ever without its turn. -/
def WeaklyFair (turns : Nat → Turn) (run : Nat → State) : Prop :=
  ∀ n, (∃ m, n ≤ m ∧ ((run m).expireEnabled = true → turns m = .expire)) ∧
    (∃ m, n ≤ m ∧ ((run m).convertEnabled = true → ∃ v, turns m = .convert v)) ∧
    (∃ m, n ≤ m ∧ ((run m).engineEnabled = true → turns m = .engine))

/-- The turns of a NAP t under the canonical schedule of 95_test_vectors.md: the fetch, `uSetRem`, for each
stage three micro-operations, one expiry while halted, its service and two micro-operations, then three
micro-operations. -/
def napTurns (kmax : MaxStage) (t : Ticks) : List Turn :=
  [.engine, .engine]
    ++ (ladder kmax t).1.flatMap
        (fun _ => [.engine, .engine, .engine, .expire, .engine, .engine, .engine])
    ++ [.engine, .engine, .engine]

/-- The turns of a SAMPLE under the canonical schedule: the conversion completes with the draw v while the
engine is halted for it. -/
def sampleTurns (v : Byte) : List Turn :=
  [.engine, .engine, .engine, .engine, .engine, .convert v, .engine, .engine, .engine, .engine, .engine]

/-- The events of one NAP stage under the canonical schedule, `Stage(k)` of 95_test_vectors.md. -/
def stageEvents (k : Stage) : List Event := [.expire k, .serviced .wdt, .slept k]

/-- The engine is at the fetch of the word w: no fault, no due service, no halt, an empty queue, `CP` at w
(R151). -/
structure State.Fetching (s : State) (w : Word) : Prop where
  noFault : s.fault = none
  noService : s.serviceDue = false
  running : s.halted = false
  idle : s.mq = []
  word : s.prog[s.cp]? = some w

/-- The countdown begins a period at the n-th step: it is armed (R116) or expires (R119). -/
def PeriodBegins (turns : Nat → Turn) (run : Nat → State) (n : Nat) : Prop :=
  (turns n = .expire ∧ (run n).expireEnabled = true) ∨
    (turns n = .engine ∧ (run n).serviceDue = false ∧ (run n).halted = false ∧
      ((∃ k rest, (run n).mq = .uArm k :: rest) ∨ ∃ k, (run n).Fetching (encode (.wdcfg k))))

/-- R117 at the m-th step of a run: CDT does not expire before a full period has passed since the last arm or
expiry. The model has no time; what it takes of this is that a full period outlasts two turns of an engine that
has a step (DESIGN CHOICE, log 30). No step tests it: R119 lets CDT expire at any time. -/
def PeriodKept (turns : Nat → Turn) (run : Nat → State) (m : Nat) : Prop :=
  turns m = .expire → (run m).expireEnabled = true → (run m).engineEnabled = true →
    ∀ n, n < m → PeriodBegins turns run n →
      ∃ i j, n < i ∧ i < j ∧ j < m ∧ turns i = .engine ∧ turns j = .engine

end Sys2Proof.Machine
end

