-- ==== Sys2Proof/Certificates/Slice0/Obligations.lean ====
section
/-! DEFINITION. The statements about the block, from the numbered rules of spec/. A result is stated as the
whole next state, so what an instruction leaves unchanged is stated with what it writes. -/

open Sys2Proof Sys2Proof.Machine

/-! ### Single-step commands -/

/-- R152: the word of NOP; NOP writes `SHADOW` and `CP` and nothing else. -/
def Obligations.NopOnlyAdvances : Prop :=
  encode .nop = 0x00000000#32 ∧
    ∀ s : State, exec .nop s = .next { s with shadow := false, cp := s.cp + 1 }

/-- R154: the word of INIT; INIT sets the pins, emits `Line(0)` only if the data pin was not driven, and leaves
the rest. -/
def Obligations.InitConfiguresPins : Prop :=
  encode .init = 0x01000000#32 ∧
    ∀ s : State, exec .init s = .next { s with
      ddata := true, line := false, dspwr := true, spwr := false, didr := true
      trace := if s.ddata then s.trace else s.trace ++ [.line .low]
      shadow := false, cp := s.cp + 1 }

/-- R156, R158: the words of CLI and SEI; they write the mask, the shadow and `CP`. -/
def Obligations.CliAndSeiWriteMask : Prop :=
  encode .cli = 0x05000000#32 ∧ encode .sei = 0x06000000#32 ∧
    ∀ s : State,
      exec .cli s = .next { s with I := false, shadow := false, cp := s.cp + 1 } ∧
      exec .sei s = .next { s with I := true, shadow := true, cp := s.cp + 1 }

/-- R95: the word of SETC; SETC writes one channel; `CH` = 3 is refused at decode. -/
def Obligations.SetcWritesOneChannel : Prop :=
  ∀ (s : State) (ch : Channel) (v : Byte),
    encode (.setc ch v) = 0x02000000#32 ||| ch.setWidth 32 <<< 16 ||| v.setWidth 32 ∧
    (ch ≠ 3#2 →
      exec (.setc ch v) s = .next { s with
        color := ⟨if ch = 0#2 then some v else s.color.c0, if ch = 1#2 then some v else s.color.c1,
          if ch = 2#2 then some v else s.color.c2⟩
        shadow := false, cp := s.cp + 1 }) ∧
    (ch = 3#2 → decode s.cfg.kmax (encode (.setc ch v)) = .error .channelOutOfRange)

/-- R97: the word of SETRGB; SETRGB writes all three channels in one step. -/
def Obligations.SetrgbWritesAllChannels : Prop :=
  ∀ (s : State) (v0 v1 v2 : Byte),
    encode (.setrgb v0 v1 v2)
      = 0x03000000#32 ||| v0.setWidth 32 <<< 16 ||| v1.setWidth 32 <<< 8 ||| v2.setWidth 32 ∧
    exec (.setrgb v0 v1 v2) s = .next { s with
      color := ⟨some v0, some v1, some v2⟩, shadow := false, cp := s.cp + 1 }

/-- R116, R118: the words of WDCFG and WDSTOP; WDCFG with `K` at most `KMAX` arms the countdown, a larger `K`
is refused at decode; WDSTOP disarms it and keeps `WDK`. -/
def Obligations.WdcfgArmsAndWdstopDisarms : Prop :=
  ∀ (s : State) (k : Stage),
    encode (.wdcfg k) = 0x08000000#32 ||| k.setWidth 32 ∧ encode .wdstop = 0x09000000#32 ∧
    (k.toNat ≤ s.cfg.kmax.toNat →
      exec (.wdcfg k) s = .next { s with
        wdk := k, wden := true, wdie := true, wdif := false, wdfresh := true
        shadow := false, cp := s.cp + 1 }) ∧
    (s.cfg.kmax.toNat < k.toNat →
      decode s.cfg.kmax (encode (.wdcfg k)) = .error .stageOutOfRange) ∧
    exec .wdstop s = .next { s with
      wden := false, wdie := false, wdif := false, shadow := false, cp := s.cp + 1 }

/-- R104, for every parameter record: the word of TX; TX with the pin not driven, with a channel never written,
and otherwise. The 24 bits go channel 0 first and most significant bit first; `I` is as before; `FAULT`, the
flags and the color are untouched. For a record that breaks R9 the low time is the truncated difference of
log 7, the model's choice. -/
def Obligations.TxSendsFrame : Prop :=
  encode .tx = 0x04000000#32 ∧
  ∀ s : State,
    (s.ddata = false →
      exec .tx s = .next { s with fault := some ⟨.notInit, s.cp, 0x04000000#32, none⟩ }) ∧
    (s.ddata = true → (s.color.c0 = none ∨ s.color.c1 = none ∨ s.color.c2 = none) →
      ∃ rn, exec .tx s = .next { s with fault := some ⟨.unwritten, s.cp, 0x04000000#32, some rn⟩ }) ∧
    (∀ c0 c1 c2 : Byte, s.ddata = true → s.color = ⟨some c0, some c1, some c2⟩ →
      exec .tx s = .next { s with
        line := false, latchok := false, wdfresh := false, shadow := false, cp := s.cp + 1
        trace := s.trace
          ++ (List.range 24).flatMap (fun i =>
            let high :=
              if ([c0, c1, c2].getD (i / 8) 0#8).getLsbD (7 - i % 8) then s.cfg.t1h else s.cfg.t0h
            [.seg true high, .seg false (s.cfg.tbit - high)])
          ++ [.frame c0 c1 c2 s.latchok] })

/-- R166, with the map of R39: the word of RDREG; a read of the four registers that never hold ⊥ (bit j of the
result is the j-th field of the register, and 0 above the fields), of a data register that has been written, of
one that holds ⊥, and of a reserved number, which is refused at decode. -/
def Obligations.RdregReadsRegisterMap : Prop :=
  ∀ (s : State) (rn : RegNum),
    encode (.rdreg rn) = 0x0C000000#32 ||| rn.setWidth 32 ∧
    (∀ bits : List Bool, (rn, bits) ∈
        [(0#4, [s.I, s.latchok, s.line]),
         (1#4, [s.wdie, s.wdif, s.adie, s.adif]),
         (2#4, [s.wdk.getLsbD 0, s.wdk.getLsbD 1, s.wdk.getLsbD 2, s.wden]),
         (9#4, [s.ddata, s.dspwr, s.spwr, s.didr, s.aden, s.adsc])] →
      ∃ v : Byte, (∀ j, v.getLsbD j = bits.getD j false) ∧
        exec (.rdreg rn) s = .next { s with
          resp := some v, trace := s.trace ++ [.resp rn v], shadow := false, cp := s.cp + 1 }) ∧
    (∀ data : Option Byte, (rn, data) ∈
        [(3#4, s.color.c0), (4#4, s.color.c1), (5#4, s.color.c2), (6#4, s.sample),
         (7#4, s.naprem.map fun r => BitVec.ofNat 8 (r.toNat % 256)),
         (8#4, s.naprem.map fun r => BitVec.ofNat 8 (r.toNat / 256))] →
      (∀ v, data = some v → exec (.rdreg rn) s = .next { s with
        resp := some v, trace := s.trace ++ [.resp rn v], shadow := false, cp := s.cp + 1 }) ∧
      (data = none → exec (.rdreg rn) s =
        .next { s with fault := some ⟨.unwritten, s.cp, encode (.rdreg rn), some rn⟩ })) ∧
    (9 < rn.toNat → decode s.cfg.kmax (encode (.rdreg rn)) = .error .registerOutOfRange)

/-! ### Long commands: the fetch step -/

/-- R160: the word of HALT; HALT enters the halt in its own step. -/
def Obligations.HaltEntersHalt : Prop :=
  encode .halt = 0x07000000#32 ∧
    ∀ s : State, exec .halt s = .next { s with
      halted := true, hwait := .any, shadow := false, mq := [.uDone] }

/-- R128, R126: the word of NAP; NAP queues the stages of the ladder; `CP` is not advanced. -/
def Obligations.NapQueuesLadder : Prop :=
  ∀ (s : State) (t : Ticks),
    encode (.nap t) = 0x0A000000#32 ||| t.setWidth 32 ∧
    exec (.nap t) s = .next { s with
      mq := [.uSetRem t]
        ++ (ladder s.cfg.kmax t).1.flatMap
            (fun k => [.uArm k, .uSei, .uHaltUntil .wdt, .uCli, .uSub k])
        ++ [.uDisarm, .uCli, .uDone]
      shadow := false }

/-- R142: the word of SAMPLE; SAMPLE queues its eight micro-operations. -/
def Obligations.SampleQueuesSequence : Prop :=
  encode .sample = 0x0B000000#32 ∧
    ∀ s : State, s.dspwr = true → exec .sample s = .next { s with
      mq := [.uSensOn, .uAdcStart, .uSei, .uHaltUntil .adc, .uCli, .uRead, .uSensOff, .uDone]
      shadow := false }

/-! ### Model faults -/

/-- R155, R104, R142, R173: TX with the data pin not driven, whatever the color holds, and SAMPLE with the
power-switch pin not driven raise `NotInit` and have no other effect. -/
def Obligations.TxAndSampleBeforeInitFault : Prop :=
  ∀ s : State,
    (s.ddata = false →
      exec .tx s = .next { s with fault := some ⟨.notInit, s.cp, 0x04000000#32, none⟩ }) ∧
    (s.dspwr = false →
      exec .sample s = .next { s with fault := some ⟨.notInit, s.cp, 0x0B000000#32, none⟩ })

/-- R104: TX with a channel never written raises `Unwritten`. That the record names the first such channel is
the model's reading (log 9). -/
def Obligations.TxUnwrittenColorFaults : Prop :=
  ∀ s : State, s.ddata = true →
    (s.color.c0 = none →
      exec .tx s = .next { s with fault := some ⟨.unwritten, s.cp, 0x04000000#32, some 3#4⟩ }) ∧
    (s.color.c0 ≠ none → s.color.c1 = none →
      exec .tx s = .next { s with fault := some ⟨.unwritten, s.cp, 0x04000000#32, some 4#4⟩ }) ∧
    (s.color.c0 ≠ none → s.color.c1 ≠ none → s.color.c2 = none →
      exec .tx s = .next { s with fault := some ⟨.unwritten, s.cp, 0x04000000#32, some 5#4⟩ })

/-- R87 read for the meanings (log 10): an operand that decoding refuses raises `Illegal` in the meaning too,
with no other effect. -/
def Obligations.IllegalOperandsFault : Prop :=
  ∀ (s : State) (i : Instr), i.WellFormed s.cfg.kmax = false →
    exec i s = .next { s with fault := some ⟨.illegal, s.cp, encode i, none⟩ }

/-- R87, R151: the fetch of an illegal word changes nothing but `FAULT` (and uses up the turn). -/
def Obligations.IllegalWordFaultsAtFetch : Prop :=
  ∀ (s : State) (w : Word), s.turn = .engine → s.Fetching w →
    (∀ i, decode s.cfg.kmax w ≠ .ok i) →
    step s = .next { s.passTurn with fault := some ⟨.illegal, s.cp, w, none⟩ }

/-- R171: after a fault no agent but the environment has a step; the outcome is the machine's stop, which is
how the model says so (log 6). -/
def Obligations.FaultedMachineStops : Prop :=
  ∀ (s : State) (f : FaultRecord), s.fault = some f → s.turn ≠ .reset → step s = .fault (.stopped f)

/-! ### The engine step -/

/-- R151: at the fetch of a legal word a step is `exec` of the decoded command, after the turn is used up.
Whose turn it is, and what using a turn up changes, is the schedule's (log 3): the next turn laid down, and past
the end of the list a free one. -/
def Obligations.StepRunsDecodedCommand : Prop :=
  (∀ (s : State) (w : Word) (i : Instr), s.turn = .engine → s.Fetching w →
    decode s.cfg.kmax w = .ok i → step s = exec i s.passTurn) ∧
  (∀ (s : State) (t : Turn) (rest : List Turn), s.sched = t :: rest →
    s.turn = t ∧ s.passTurn = { s with sched := rest }) ∧
  (∀ s : State, s.sched = [] →
    s.turn = Config.freeTurn s.freeTurns ∧ s.passTurn = { s with freeTurns := s.freeTurns + 1 })

/-- R36, R151: a step performs the head of the queue and removes it. -/
def Obligations.StepPerformsQueueHead : Prop :=
  ∀ (s : State) (m : MicroOp) (rest : List MicroOp), s.turn = .engine → s.fault = none →
    s.serviceDue = false → s.halted = false → s.mq = m :: rest →
    step s = .next (({ s.passTurn with mq := rest } : State).perform m)

/-- R125, R143, R150, R157, R159, R162: the effect of every micro-operation; `uSub` for a remainder and
`uRead` for a result that have been written. That `uSub` of a stage longer than the remainder, which no run
reaches (R124), wraps at 16 bits is the model's choice (log 12). -/
def Obligations.MicroOperationEffects : Prop :=
  ∀ (s : State) (k : Stage) (v r : Ticks) (b : Byte) (w : HaltWait),
    s.perform (.uSetRem v) = { s with naprem := some v, shadow := false } ∧
    s.perform (.uArm k) = { s with
      wdk := k, wden := true, wdie := true, wdif := false, wdfresh := true, shadow := false } ∧
    (s.naprem = some r → s.perform (.uSub k) = { s with
      naprem := some (r - 16#16 <<< k.toNat), trace := s.trace ++ [.slept k], shadow := false }) ∧
    s.perform .uDisarm = { s with wden := false, wdie := false, wdif := false, shadow := false } ∧
    s.perform .uSensOn = { s with spwr := true, trace := s.trace ++ [.sense true], shadow := false } ∧
    s.perform .uAdcStart = { s with
      aden := true, adie := true, adif := false, adsc := true, shadow := false } ∧
    (s.adres = some b → s.perform .uRead = { s with
      sample := some b, trace := s.trace ++ [.sampled (some b)], shadow := false }) ∧
    s.perform .uSensOff = { s with
      adsc := false, aden := false, adie := false, adif := false, spwr := false
      trace := s.trace ++ [.sense false], shadow := false } ∧
    s.perform .uDone = { s with shadow := false, cp := s.cp + 1 } ∧
    s.perform .uCli = { s with I := false, shadow := false } ∧
    s.perform .uSei = { s with I := true, shadow := true } ∧
    s.perform (.uHaltUntil w) = { s with halted := true, hwait := w, shadow := false }

/-- R176, R177, R178: a step in which a service is due serves one source, WDT first, whatever else the engine
could do: the flag is cleared, the halt ends if it waits for that source, `I` is as before. -/
def Obligations.DueServiceIsTaken : Prop :=
  ∀ s : State, s.turn = .engine → s.fault = none → s.I = true → s.shadow = false →
    (s.wdif = true → s.wdie = true → step s = .next { s.passTurn with
      wdif := false, trace := s.trace ++ [.serviced .wdt]
      halted := s.halted && decide (s.hwait = .adc) }) ∧
    ((s.wdif && s.wdie) = false → s.adif = true → s.adie = true → step s = .next { s.passTurn with
      adif := false, trace := s.trace ++ [.serviced .adc]
      halted := s.halted && decide (s.hwait = .wdt) })

/-- R151, R208, R163: a halted engine with no service due has no step; and once the run has ended without a
fault no agent but the environment has one. In the model the turn passes (log 5). -/
def Obligations.WithoutStepTurnPasses : Prop :=
  ∀ s : State, s.fault = none →
    (s.turn = .engine → s.halted = true →
      (s.I = false ∨ s.shadow = true ∨ ((s.wdif && s.wdie) = false ∧ (s.adif && s.adie) = false)) →
      step s = .next s.passTurn) ∧
    (s.halted = false → s.mq = [] → s.cp = s.prog.length → s.serviceDue = false → s.turn ≠ .reset →
      step s = .next s.passTurn)

/-- R167: with a program word at `CP`, `CMD_READY` is 1 exactly when the engine is at its fetch. -/
def Obligations.ReadyExactlyAtFetch : Prop :=
  ∀ (s : State) (w : Word), s.prog[s.cp]? = some w → (s.cmdReady = true ↔ s.Fetching w)

/-! ### The other agents -/

/-- R119: expire, when the countdown runs and the run has not ended. Otherwise CDT has no step; that its turn
then passes is the model's choice (log 5). -/
def Obligations.ExpireSetsFlag : Prop :=
  ∀ s : State, s.turn = .expire → s.fault = none →
    (s.wden = true → s.ended = false → step s = .next { s.passTurn with
      wdif := true, latchok := if s.wdfresh then true else s.latchok
      trace := s.trace ++ [.expire s.wdk] }) ∧
    (s.wden = false ∨ s.ended = true → step s = .next s.passTurn)

/-- R141, R144: convert writes the draw, for every draw, when a conversion is in progress. Otherwise ADC has no
step; that its turn then passes is the model's choice (log 5). -/
def Obligations.ConvertDeliversDraw : Prop :=
  ∀ (s : State) (v : Byte), s.turn = .convert v → s.fault = none →
    (s.adsc = true → s.aden = true → s.ended = false → step s = .next { s.passTurn with
      adres := some v, adsc := false, adif := true }) ∧
    (s.adsc = false ∨ s.aden = false ∨ s.ended = true → step s = .next s.passTurn)

/-- R200: reset, from every state: every item of R44 at its reset value, `FAULT` and `TRACE` kept, `Reset`
emitted, and `Line(Z)` if the pin was driven. The order of the two events is that of vector X1 (log 14). -/
def Obligations.ResetFromEveryState : Prop :=
  ∀ s : State, s.turn = .reset → step s = .next { s.passTurn with
    cp := 0, mq := [], I := false, shadow := false, halted := false, hwait := .any
    color := ⟨none, none, none⟩, ddata := false, line := false, latchok := true
    wdk := 0#3, wden := false, wdfresh := false, wdie := false, wdif := false
    dspwr := false, spwr := false, didr := false, aden := false, adsc := false, adie := false, adif := false
    adres := none, sample := none, naprem := none, resp := none
    trace := s.trace ++ .reset :: (if s.ddata then [.line .z] else []) }

/-- R40, R201: what RDREG finds in each register after a reset, from every state. -/
def Obligations.RegistersAfterReset : Prop :=
  ∀ s : State, s.turn = .reset → ∃ u, step s = .next u ∧
    u.reg 0#4 = .value 0x02#8 ∧ u.reg 1#4 = .value 0x00#8 ∧ u.reg 2#4 = .value 0x00#8 ∧
    u.reg 9#4 = .value 0x00#8 ∧
    (∀ rn ∈ [3#4, 4#4, 5#4, 6#4, 7#4, 8#4], u.reg rn = .unwritten)

/-! ### Encoding -/

/-- R85, R86, R91: decoding the word of a well-formed command gives the command back, every operand at every
value the encoding admits. -/
def Obligations.DecodeOfEncode : Prop :=
  ∀ (kmax : MaxStage) (i : Instr), i.WellFormed kmax = true → decode kmax (encode i) = .ok i

/-- R86: a word that decodes is the word of the command it decodes to, which is well-formed: no word has two
meanings and no bit is ignored. -/
def Obligations.EncodeOfDecode : Prop :=
  ∀ (kmax : MaxStage) (w : Word) (i : Instr), decode kmax w = .ok i →
    encode i = w ∧ i.WellFormed kmax = true

/-- R85, R87: a word is legal exactly when it matches a row of the opcode map and meets that row's field-value
constraint; the command it decodes to bears the row's mnemonic; no word matches two rows. -/
def Obligations.LegalWordsMatchTable : Prop :=
  ∀ (kmax : MaxStage) (w : Word),
    (∀ i, decode kmax w = .ok i → ∃ r ∈ opcodeTable, r.mnemonic = i.mnemonic ∧ w &&& r.mask = r.val ∧
      (r.mnemonic = "SETC" → w.extractLsb' 16 2 ≠ 3#2) ∧
      (r.mnemonic = "WDCFG" → (w.extractLsb' 0 3).toNat ≤ kmax.toNat) ∧
      (r.mnemonic = "RDREG" → (w.extractLsb' 0 4).toNat ≤ 9)) ∧
    (∀ r ∈ opcodeTable, w &&& r.mask = r.val →
      (r.mnemonic = "SETC" → w.extractLsb' 16 2 ≠ 3#2) →
      (r.mnemonic = "WDCFG" → (w.extractLsb' 0 3).toNat ≤ kmax.toNat) →
      (r.mnemonic = "RDREG" → (w.extractLsb' 0 4).toNat ≤ 9) →
      ∃ i, decode kmax w = .ok i ∧ i.mnemonic = r.mnemonic) ∧
    (∀ r ∈ opcodeTable, ∀ r' ∈ opcodeTable, w &&& r.mask = r.val → w &&& r'.mask = r'.val → r = r')

/-- R93: the worked encodings and the illegal words. -/
def Obligations.WorkedEncodings : Prop :=
  decode .seven 0x02010080#32 = .ok (.setc 1#2 0x80#8) ∧
  decode .seven 0x03123456#32 = .ok (.setrgb 0x12#8 0x34#8 0x56#8) ∧
  decode .seven 0x08000007#32 = .ok (.wdcfg 7#3) ∧
  decode .seven 0x0A000064#32 = .ok (.nap 100#16) ∧
  decode .seven 0x0A00FFFF#32 = .ok (.nap 65535#16) ∧
  decode .seven 0x0C000001#32 = .ok (.rdreg 1#4) ∧
  decode .seven 0x02030000#32 = .error .channelOutOfRange ∧
  decode .seven 0x04000001#32 = .error .reservedBits ∧
  decode .seven 0x0A010000#32 = .error .reservedBits ∧
  decode .seven 0x0C00000A#32 = .error .registerOutOfRange ∧
  decode .seven 0x0D000000#32 = .error (.reservedOpcode 0x0D#8) ∧
  decode .seven 0xFFFFFFFF#32 = .error (.reservedOpcode 0xFF#8)

/-- R63: a program stored as bytes, most significant byte first, is read back word for word. -/
def Obligations.StoredProgramReadsBack : Prop :=
  ∀ ws : List Word,
    programOfBytes (ws.flatMap fun w =>
      [BitVec.ofNat 8 (w.toNat / 16777216), BitVec.ofNat 8 (w.toNat / 65536),
       BitVec.ofNat 8 (w.toNat / 256), BitVec.ofNat 8 w.toNat]) = .ok ws

/-- R91: whatever source assembles, every word of it is a legal word. -/
def Obligations.AssembledWordsAreLegal : Prop :=
  ∀ (kmax : MaxStage) (src : List Char) (ws : List Word), assemble kmax src = .ok ws →
    ∀ w ∈ ws, ∃ i, decode kmax w = .ok i ∧ encode i = w

/-- R91, R92: what each command and pseudo-instruction assembles to, for every operand text that is a number,
and that an operand outside its range is an error. Which texts are numbers is the model's reading of R90: the
digits after `0x` of either case, and leading zeros in decimal numbers, are its choice (log 20). -/
def Obligations.AssemblerFollowsOperandTable : Prop :=
  ∀ kmax : MaxStage,
    (∀ line ∈ [("NOP", [0x00000000#32]), ("INIT", [0x01000000#32]), ("TX", [0x04000000#32]),
        ("CLI", [0x05000000#32]), ("SEI", [0x06000000#32]), ("HALT", [0x07000000#32]),
        ("WDSTOP", [0x09000000#32]), ("SAMPLE", [0x0B000000#32]),
        ("OFF", [0x03000000#32, 0x04000000#32]),
        ("WAITI", [0x06000000#32, 0x07000000#32, 0x05000000#32]),
        ("RDREG STATUS", [0x0C000000#32]), ("RDREG INTCTL", [0x0C000001#32]),
        ("RDREG WDCTL", [0x0C000002#32]), ("RDREG COLOR0", [0x0C000003#32]),
        ("RDREG COLOR1", [0x0C000004#32]), ("RDREG COLOR2", [0x0C000005#32]),
        ("RDREG SAMPLE", [0x0C000006#32]), ("RDREG NAPREM_L", [0x0C000007#32]),
        ("RDREG NAPREM_H", [0x0C000008#32]), ("RDREG PINCTL", [0x0C000009#32])],
      assemble kmax line.1.toList = .ok line.2) ∧
    ∀ (x y z : List Char) (a b c : Nat),
      parseNumber x = some a → parseNumber y = some b → parseNumber z = some c →
      assemble kmax ("SETC ".toList ++ x ++ ", ".toList ++ y) =
        (if a ≤ 2 ∧ b ≤ 255 then
          .ok [0x02000000#32 ||| BitVec.ofNat 32 a <<< 16 ||| BitVec.ofNat 32 b]
        else .error .operandRange) ∧
      assemble kmax ("SETRGB ".toList ++ x ++ ", ".toList ++ y ++ ", ".toList ++ z) =
        (if a ≤ 255 ∧ b ≤ 255 ∧ c ≤ 255 then
          .ok [0x03000000#32 ||| BitVec.ofNat 32 a <<< 16 ||| BitVec.ofNat 32 b <<< 8
            ||| BitVec.ofNat 32 c]
        else .error .operandRange) ∧
      assemble kmax ("SHOW ".toList ++ x ++ ", ".toList ++ y ++ ", ".toList ++ z) =
        (if a ≤ 255 ∧ b ≤ 255 ∧ c ≤ 255 then
          .ok [0x03000000#32 ||| BitVec.ofNat 32 a <<< 16 ||| BitVec.ofNat 32 b <<< 8
            ||| BitVec.ofNat 32 c, 0x04000000#32]
        else .error .operandRange) ∧
      assemble kmax ("WDCFG ".toList ++ x) =
        (if a ≤ kmax.toNat then .ok [0x08000000#32 ||| BitVec.ofNat 32 a] else .error .operandRange) ∧
      assemble kmax ("STAGE ".toList ++ x) =
        (if a ≤ kmax.toNat then
          .ok [0x08000000#32 ||| BitVec.ofNat 32 a, 0x06000000#32, 0x07000000#32, 0x05000000#32]
        else .error .operandRange) ∧
      assemble kmax ("NAP ".toList ++ x) =
        (if a ≤ 65535 then .ok [0x0A000000#32 ||| BitVec.ofNat 32 a] else .error .operandRange) ∧
      assemble kmax ("RDREG ".toList ++ x) =
        (if a ≤ 9 then .ok [0x0C000000#32 ||| BitVec.ofNat 32 a] else .error .operandRange)

/-! ### The waveform -/

/-- R62, R64, R100: the bits of a frame in time order are the 24-bit immediate of SETRGB, most significant bit
first. -/
def Obligations.FrameBitsAreImmediateInOrder : Prop :=
  ∀ c0 c1 c2 : Byte, frameBits c0 c1 c2 =
    (List.range 24).map fun i => (encode (.setrgb c0 c1 c2)).getLsbD (23 - i)

/-- R45, R46, R98, R99, R108: TX emits 48 segments and then one `Frame`; the segments last `24 × TBIT` cycles;
and a receiver that measures the high pulses reads 24 bits whose value is the three color bytes. -/
def Obligations.WaveformCarriesColor : Prop :=
  ∀ (s : State) (c0 c1 c2 : Byte), s.cfg.wf → s.ddata = true →
    s.color = ⟨some c0, some c1, some c2⟩ →
    ∃ (u : State) (segs : List Event), exec .tx s = .next u ∧
      u.trace = s.trace ++ segs ++ [.frame c0 c1 c2 s.latchok] ∧
      segs.length = 48 ∧ (∀ e ∈ segs, ∃ level cycles, e = .seg level cycles ∧ 0 < cycles) ∧
      segCycles segs = 24 * s.cfg.tbit ∧
      (receivedBits s.cfg segs).length = 24 ∧
      bitsValue (receivedBits s.cfg segs) = c0.toNat * 65536 + c1.toNat * 256 + c2.toNat

/-- R106, through the model's view of the LED (log 19), under the premise of R214 for the tick and with no low
period above the latch threshold inside a frame (R107; log 27): a fresh frame is shown once a countdown started
after it has expired, not before; a frame sent too soon after another is never claimed to be shown. Without the
two premises nothing is claimed of the light. -/
def Obligations.LatchedFreshFrameIsShown : Prop :=
  ∀ (s u : State) (c0 c1 c2 : Byte) (k : Stage) (tick : ℝ), s.ddata = true →
    s.color = ⟨some c0, some c1, some c2⟩ →
    (s.trace.foldl LedView.see LedView.launch).sound = true → exec .tx s = .next u →
    (s.cfg.latchPremise tick → frameUnbroken s.cfg → ∀ c : Byte × Byte × Byte,
      ¬ u.LedShows tick c ∧ ¬ u.expire.LedShows tick c ∧
        ((u.arm k).expire.LedShows tick c ↔ s.latchok = true ∧ c = (c0, c1, c2))) ∧
    (¬ s.cfg.latchPremise tick ∨ ¬ frameUnbroken s.cfg → ∀ c, ¬ (u.arm k).expire.LedShows tick c)

/-! ### The ladder -/

/-- R121, R122, R124: the residual is `t mod 16` and the stages add up to `t - (t mod 16)`. -/
def Obligations.LadderSumAndResidual : Prop :=
  ∀ (kmax : MaxStage) (t : Ticks),
    (ladder kmax t).2.toNat = t.toNat % 16 ∧
    ((ladder kmax t).1.map fun k => 16 * 2 ^ k.toNat).sum = t.toNat - t.toNat % 16

/-- R121: the stages are non-increasing and at most `KMAX`; the top one occurs `t div (16 << KMAX)` times; a
lower stage k occurs once if bit `k + 4` of t is 1, and otherwise not. -/
def Obligations.LadderOrderAndCounts : Prop :=
  ∀ (kmax : MaxStage) (t : Ticks),
    ((ladder kmax t).1.Pairwise fun k k' => k'.toNat ≤ k.toNat) ∧
    (∀ k ∈ (ladder kmax t).1, k.toNat ≤ kmax.toNat) ∧
    (ladder kmax t).1.count (BitVec.ofNat 3 kmax.toNat) = t.toNat / (16 * 2 ^ kmax.toNat) ∧
    (∀ k : Stage, k.toNat < kmax.toNat →
      (ladder kmax t).1.count k = if t.getLsbD (k.toNat + 4) then 1 else 0)

/-- R121, R133: the number of halts, `(t >> (4 + KMAX)) + popcount((t >> 4) & ((1 << KMAX) - 1))`, and the
number of micro-operations of a NAP, `5 × halts + 4`. -/
def Obligations.LadderLength : Prop :=
  ∀ (kmax : MaxStage) (t : Ticks),
    (ladder kmax t).1.length =
      t.toNat / 2 ^ (4 + kmax.toNat)
        + ((List.range kmax.toNat).filter fun j => t.getLsbD (4 + j)).length ∧
    (napQueue kmax t).length = 5 * (ladder kmax t).1.length + 4

/-! ### Runs of the long commands -/

/-- R128, R129, R222, under the canonical schedule of 95_test_vectors.md: a NAP runs its stages in order and
ends as R128 says, from every state at its fetch. A countdown interrupt that is pending at a fetch in SEI's
shadow is served first, at one more engine turn (vector N7). -/
def Obligations.NapRunsToCompletion : Prop :=
  ∀ (s : State) (t : Ticks) (rest : List Turn) (early : Bool), s.Fetching (encode (.nap t)) →
    early = (s.I && s.pend .wdt) →
    s.sched = (if early then [.engine] else []) ++ napTurns s.cfg.kmax t ++ rest →
    s.pend .adc = false →
    Host.Core.run Sys2Proof.core (early.toNat + (napTurns s.cfg.kmax t).length) s = .next { s with
      cp := s.cp + 1, I := false, shadow := false
      hwait := if (ladder s.cfg.kmax t).1 = [] then s.hwait else .wdt
      latchok := if (ladder s.cfg.kmax t).1 = [] then s.latchok else true
      wdk := (ladder s.cfg.kmax t).1.getLastD s.wdk
      wdfresh := if (ladder s.cfg.kmax t).1 = [] then s.wdfresh else true
      wden := false, wdie := false, wdif := false
      naprem := some (t % 16#16)
      trace := s.trace ++ (if early then [.serviced .wdt] else []) ++ (ladder s.cfg.kmax t).1.flatMap
        (fun k => [.expire k, .serviced .wdt, .slept k])
      sched := rest }

/-- R142, R143, R145, under the canonical schedule: a SAMPLE returns the draw and leaves the sensor off, from
every state at its fetch with nothing pending. -/
def Obligations.SampleRunsToCompletion : Prop :=
  ∀ (s : State) (v : Byte) (rest : List Turn), s.Fetching (encode .sample) → s.dspwr = true →
    s.sched = sampleTurns v ++ rest →
    (s.wdif && s.wdie) = false → (s.adif && s.adie) = false →
    Host.Core.run Sys2Proof.core 11 s = .next { s with
      cp := s.cp + 1, I := false, shadow := false, hwait := .adc
      spwr := false, aden := false, adsc := false, adie := false, adif := false
      adres := some v, sample := some v
      trace := s.trace ++ [.sense true, .serviced .adc, .sampled (some v), .sense false]
      sched := rest }

/-- R164, R158 to R162: a flag that stands when a halt is entered in the SEI shadow is not served before the halt
is entered, at the first turn; it is serviced right after, and that ends the halt; for HALT and for a
micro-operation's halt. If the other source is pending too, WDT goes first, so the wake comes at the second or
at the third turn. -/
def Obligations.NoMissedWake : Prop :=
  ∀ (s : State) (src : Source) (w : HaltWait) (rest : List Turn), s.fault = none → s.halted = false →
    s.I = true → s.shadow = true → s.pend src = true → w.endedBy src = true →
    ((∃ q, s.mq = .uHaltUntil w :: q) ∨
      (w = .any ∧ s.mq = [] ∧ s.prog[s.cp]? = some 0x07000000#32)) →
    s.sched = .engine :: .engine :: .engine :: rest →
    (∃ v, Host.Core.run Sys2Proof.core 1 s = .next v ∧ v.halted = true ∧ v.hwait = w ∧
      v.pend src = true ∧ v.cp = s.cp ∧ v.trace = s.trace) ∧
    ∃ n u, 2 ≤ n ∧ n ≤ 3 ∧ Host.Core.run Sys2Proof.core n s = .next u ∧ u.halted = false ∧
      .serviced src ∈ u.trace.drop s.trace.length ∧ u.cp = s.cp

/-- R160, R161, R215: a halt with `I` = 0, or with no pending source, no running conversion, and the countdown
stopped or its interrupt disabled, lasts through every sequence of turns without a reset, and the run does not
end. That the turns of a stuck engine answer next states is the model's choice (log 5). -/
def Obligations.HaltThatNothingEndsIsPermanent : Prop :=
  ∀ (turns rest : List Turn) (s : State), s.fault = none → s.halted = true →
    (s.I = false ∨
      ((s.wdif && s.wdie) = false ∧ (s.adif && s.adie) = false ∧ s.adsc = false ∧
        (s.wden = false ∨ s.wdie = false))) →
    s.sched = turns ++ rest → .reset ∉ turns →
    ∃ u, Host.Core.run Sys2Proof.core turns.length s = .next u ∧ u.halted = true ∧ u.I = s.I ∧
      u.cp = s.cp ∧ u.mq = s.mq ∧ u.ended = false

/-- R7, R163: a halt ends if it is ended by WDT and the countdown runs with its interrupt enabled, or if it
is ended by ADC, a conversion is in progress or its flag stands, and no countdown interrupt can come before it
(a running one could come first for ever, log 18). R133, R126: a NAP terminates, whatever `I` was at its entry,
in the runs that keep R117's full period between expiries: it completes, `CP` advances by one, and until then
no expiry comes between a stage's `uArm` and its `uSei`, so that every expiry of a stage ends its halt
(NoMissedWake). Both are stated of the run for as long as the halt or the NAP lasts: what comes after it is not
asked about, and the turns have to be fair only if it lasted for ever. That fairness is also the engine's is
the model's reading of R7 (log 4); that a full period outlasts two turns of the engine is its reading of R117
(log 30), without which it has the runs of ExpiriesStarveTheQueue (log 18). -/
def Obligations.FairRunEndsHalt : Prop :=
  (∀ (turns : Nat → Turn) (run : Nat → State) (n : Nat),
    (∀ m, n ≤ m → HaltedUpTo run n m → RunStep turns run m ∧ turns m ≠ .reset) →
    ((∀ m, n ≤ m → (run m).halted = true) → WeaklyFair turns run) →
    (run n).fault = none → (run n).halted = true → (run n).I = true → (run n).shadow = false →
    (((run n).hwait ≠ .adc ∧ (run n).wden = true ∧ (run n).wdie = true) ∨
      ((run n).hwait ≠ .wdt ∧ (run n).aden = true ∧ (run n).adie = true ∧
        ((run n).adsc = true ∨ (run n).adif = true) ∧ (run n).wdie = false)) →
    ∃ m, n < m ∧ HaltedUpTo run n (m - 1) ∧ (run m).halted = false ∧ (run m).cp = (run n).cp ∧
      (run m).fault = none) ∧
  ∀ (turns : Nat → Turn) (run : Nat → State) (n : Nat) (t : Ticks),
    (run n).Inv → (run n).Fetching (encode (.nap t)) →
    (∀ m, n ≤ m → (∀ j, n ≤ j → j ≤ m → (run j).cp = (run n).cp) →
      RunStep turns run m ∧ turns m ≠ .reset ∧ PeriodKept turns run m) →
    ((∀ m, n ≤ m → (run m).cp = (run n).cp) → WeaklyFair turns run) →
    ∃ m, n < m ∧ (run m).cp = (run n).cp + 1 ∧ (run m).mq = [] ∧ (run m).halted = false ∧
      (run m).fault = none ∧
      ∀ j, n ≤ j → j < m → (run j).cp = (run n).cp ∧
        (turns j = .expire → ∀ rest, (run j).mq ≠ .uSei :: .uHaltUntil .wdt :: rest)

/-- R215: a NAP and a SAMPLE arm their own source and enable interrupts before they halt. Whatever turns other
than a reset come, while the command is in progress and halted its own source is enabled and unmasked, and is
running or pending; but of a SAMPLE entered with `I` = 1 the conversion may have been serviced before the halt,
which the rules allow though R215's remark does not (log 18). -/
def Obligations.NapAndSampleHaltsCanEnd : Prop :=
  ∀ (s u : State) (turns rest : List Turn), s.sched = turns ++ rest → .reset ∉ turns →
    Host.Core.run Sys2Proof.core turns.length s = .next u → u.cp = s.cp → u.halted = true →
    (∀ t, s.Fetching (encode (.nap t)) →
      u.hwait = .wdt ∧ u.I = true ∧ u.shadow = false ∧ u.wden = true ∧ u.wdie = true) ∧
    (s.Fetching (encode .sample) →
      u.hwait = .adc ∧ u.I = true ∧ u.shadow = false ∧ u.aden = true ∧ u.adie = true ∧
        (u.adsc = true ∨ u.adif = true ∨
          (s.I = true ∧ .serviced .adc ∈ u.trace.drop s.trace.length)))

/-- What the rules R142, R143, R176 and R178 give for a SAMPLE entered with interrupts enabled (log 18; R215's
derived remark does not admit it): a conversion that completes before `uSei` is serviced early, and the halt
then waits for a conversion that never comes, through every further sequence of turns without a reset. -/
def Obligations.SampleEnteredUnmaskedCanHang : Prop :=
  ∀ (s : State) (v : Byte) (turns rest : List Turn), s.Fetching (encode .sample) → s.dspwr = true →
    s.I = true → (s.wdif && s.wdie) = false → (s.adif && s.adie) = false → .reset ∉ turns →
    s.sched = [.engine, .engine, .engine, .convert v, .engine, .engine, .engine] ++ turns ++ rest →
    ∃ u late, Host.Core.run Sys2Proof.core (7 + turns.length) s = .next u ∧ u.fault = none ∧
      u.halted = true ∧ u.hwait = .adc ∧ u.adsc = false ∧ u.adif = false ∧ u.cp = s.cp ∧
      u.mq = [.uCli, .uRead, .uSensOff, .uDone] ∧ u.ended = false ∧
      u.trace = s.trace ++ [.sense true, .serviced .adc] ++ late ∧
      ∀ e ∈ late, e = .serviced .wdt ∨ ∃ k, e = .expire k

/-- What the rules R119, R151 and R176 give for expiries that come before every engine step of an enabled engine
(log 18; R133's derived remark does not admit it): the engine only serves them, and the command in progress
makes no progress, however long the run. -/
def Obligations.ExpiriesStarveTheQueue : Prop :=
  ∀ (n : Nat) (s : State) (rest : List Turn), s.fault = none → s.halted = false → s.mq ≠ [] →
    s.I = true → s.shadow = false → s.wden = true → s.wdie = true →
    s.sched = (List.replicate n [Turn.expire, Turn.engine]).flatten ++ rest →
    ∃ u, Host.Core.run Sys2Proof.core (2 * n) s = .next u ∧ u.mq = s.mq ∧ u.cp = s.cp ∧
      u.halted = false ∧
      u.trace = s.trace ++ (List.replicate n [Event.expire s.wdk, Event.serviced .wdt]).flatten

/-! ### Whole-machine rules -/

/-- The invariant holds at launch, for every program and every schedule (R207). -/
def Obligations.InvariantHoldsAtLaunch : Prop :=
  State.reset.Inv ∧ ∀ (prog : List Word) (sched : List Turn), (State.launch prog sched).Inv

/-- Every step of every agent keeps the invariant. -/
def Obligations.StepKeepsInvariant : Prop :=
  ∀ s u : State, s.Inv → step s = .next u → u.Inv

/-- R38: `TRACE` is empty at launch and a step only appends to it. R37: none sets `FAULT` back. R23: the
program never changes. That the parameters `cfg`, which R44 counts among the parameters of the step and not the
state, stand in State and are changed by no step is the model's choice (log 2). -/
def Obligations.TraceFaultAndProgramPersist : Prop :=
  (∀ (prog : List Word) (sched : List Turn), (State.launch prog sched).trace = []) ∧
  ∀ s u : State, step s = .next u →
    s.trace <+: u.trace ∧ (s.fault ≠ none → u.fault = s.fault) ∧ u.prog = s.prog ∧ u.cfg = s.cfg

/-- R22, R165: `CP` stays, or moves forward by one as the engine completes a command, which leaves no command
in progress when none but that one was; reset alone takes it back to 0. -/
def Obligations.CommandPointerMovesByOne : Prop :=
  ∀ s u : State, step s = .next u →
    u.cp = s.cp ∨ (u.cp = s.cp + 1 ∧ s.turn = .engine ∧ s.halted = false ∧
      (s.mq = [] → u.mq = []) ∧ (∀ m rest, s.mq = m :: rest → m = .uDone ∧ u.mq = rest)) ∨
    (u.cp = 0 ∧ s.turn = .reset)

/-- R163: what ends a halt. -/
def Obligations.HaltEndsOnlyByServiceOrReset : Prop :=
  ∀ s u : State, step s = .next u → s.halted = true → u.halted = false →
    s.turn = .reset ∨
      (s.turn = .engine ∧ s.I = true ∧ s.shadow = false ∧
        ((s.wdif = true ∧ s.wdie = true ∧ s.hwait ≠ .adc ∧ u.trace = s.trace ++ [.serviced .wdt]) ∨
         (s.adif = true ∧ s.adie = true ∧ s.hwait ≠ .wdt ∧ u.trace = s.trace ++ [.serviced .adc])))

/-- R176: no source is serviced while `I` = 0, in the SEI shadow, or while its flag or enable is 0. -/
def Obligations.ServicesNeedEnabledPendingSource : Prop :=
  ∀ (s u : State) (src : Source), step s = .next u →
    .serviced src ∈ u.trace.drop s.trace.length →
    s.turn = .engine ∧ s.fault = none ∧ s.I = true ∧ s.shadow = false ∧ s.pend src = true

/-- R29: `LATCHOK` is set by nothing but an expiry with `WDFRESH` = 1, or reset, and cleared by nothing but
TX. -/
def Obligations.LatchOkWriters : Prop :=
  ∀ s u : State, step s = .next u →
    (s.latchok = false → u.latchok = true →
      s.turn = .reset ∨ (s.turn = .expire ∧ s.wden = true ∧ s.wdfresh = true)) ∧
    (s.latchok = true → u.latchok = false → s.turn = .engine ∧ s.Fetching (encode .tx))

/-- R24: which steps change `I`. -/
def Obligations.InterruptEnableWriters : Prop :=
  ∀ s u : State, step s = .next u →
    (s.I = false → u.I = true → s.turn = .engine ∧
      (s.Fetching (encode .sei) ∨ ∃ rest, s.mq = .uSei :: rest)) ∧
    (s.I = true → u.I = false → s.turn = .reset ∨ (s.turn = .engine ∧
      (s.Fetching (encode .cli) ∨ ∃ rest, s.mq = .uCli :: rest)))

/-- R174: what sets and what clears the two flags. -/
def Obligations.FlagWriters : Prop :=
  ∀ s u : State, step s = .next u →
    (s.wdif = false → u.wdif = true → s.turn = .expire ∧ s.wden = true) ∧
    (s.wdif = true → u.wdif = false → s.turn = .reset ∨ (s.turn = .engine ∧
      (u.trace = s.trace ++ [.serviced .wdt] ∨ s.mq.head? = some .uDisarm ∨
        (∃ k, s.mq.head? = some (.uArm k)) ∨ s.Fetching (encode .wdstop) ∨
        ∃ k, s.Fetching (encode (.wdcfg k))))) ∧
    (s.adif = false → u.adif = true → ∃ v, s.turn = .convert v ∧ s.adsc = true ∧ s.aden = true) ∧
    (s.adif = true → u.adif = false → s.turn = .reset ∨ (s.turn = .engine ∧
      (u.trace = s.trace ++ [.serviced .adc] ∨ s.mq.head? = some .uAdcStart ∨
        s.mq.head? = some .uSensOff)))

/-- R27: `COLOR` is written by SETC and SETRGB alone, and by reset. -/
def Obligations.ColorWriters : Prop :=
  ∀ s u : State, step s = .next u → u.color ≠ s.color →
    s.turn = .reset ∨ (s.turn = .engine ∧
      ((∃ ch v, s.Fetching (encode (.setc ch v))) ∨ ∃ v0 v1 v2, s.Fetching (encode (.setrgb v0 v1 v2))))

/-- R45: only TX emits `Seg` events. -/
def Obligations.OnlyTxEmitsSegments : Prop :=
  ∀ (s u : State) (level : Bool) (cycles : Nat), step s = .next u →
    .seg level cycles ∈ u.trace.drop s.trace.length → s.turn = .engine ∧ s.Fetching (encode .tx)

/-- R47: outside a frame every change of the `DATA` pin is recorded by a `Line` event with the new level. That
the event is the last one of the step rests, for a reset, on the order `Reset` before `Line(Z)`, which the model
reads from vector X1, R200 giving none (log 14). -/
def Obligations.PinChangesAreRecorded : Prop :=
  ∀ s u : State, s.Inv → step s = .next u → u.dataPin ≠ s.dataPin →
    u.trace.getLast? = some (.line u.dataPin) ∧ s.trace.length < u.trace.length

/-- R143: a sample is never recorded as ⊥. -/
def Obligations.SamplesAreNeverUnwritten : Prop :=
  ∀ s u : State, s.Inv → step s = .next u → .sampled none ∉ u.trace.drop s.trace.length
end

