-- ==== Sys2Proof/Laws/Assembler.lean ====
section
/-! SUPPORT. What the assembler makes of a line, said once (R90): a text that is a number has no separator in
it, and a mnemonic followed by such operands is cut into exactly these. -/
namespace Sys2Proof.Machine

/-- A character that ends no piece of a line: no blank, comma, semicolon, colon or end of line. -/
def isPlainChar (c : Char) : Bool :=
  !isBlankChar c && c != ',' && c != ';' && c != ':' && c != '\n'

/-- A text without separators. -/
def IsPlain (cs : List Char) : Prop := ∀ c ∈ cs, isPlainChar c = true

theorem isPlainChar_of_digitValue (c : Char) (d : Nat) (h : digitValue c = some d) :
    isPlainChar c = true := by
  have hc : isPlainChar c = false → digitValue c = none := by
    intro hp
    simp only [isPlainChar, isBlankChar, Bool.and_eq_false_iff, Bool.not_eq_false', Bool.or_eq_true,
      beq_iff_eq, bne_eq_false_iff_eq] at hp
    rcases hp with (((((rfl | rfl) | rfl) | rfl) | rfl) | rfl) | rfl <;> decide
  cases hp : isPlainChar c with
  | true => rfl
  | false => rw [hc hp] at h; cases h

theorem isPlain_of_parseDigits (base : Nat) (cs : List Char) (acc n : Nat)
    (h : parseDigits base acc cs = some n) : IsPlain cs := by
  induction cs generalizing acc with
  | nil => intro c hc; cases hc
  | cons c cs ih =>
    unfold parseDigits at h
    cases hd : digitValue c with
    | none => simp [hd] at h
    | some d =>
      simp only [hd] at h
      split at h
      · intro c' hc'
        cases hc' with
        | head => exact isPlainChar_of_digitValue c d hd
        | tail _ hc' => exact ih _ h c' hc'
      · cases h

/-- A text that is a number is not empty and has no separator in it (R90). -/
theorem isPlain_of_parseNumber (cs : List Char) (n : Nat) (h : parseNumber cs = some n) :
    IsPlain cs ∧ cs ≠ [] := by
  unfold parseNumber at h
  split at h
  · rename_i d ds
    refine ⟨?_, by simp⟩
    have hp := isPlain_of_parseDigits 16 _ 0 n h
    intro c hc
    simp only [List.mem_cons] at hc
    rcases hc with rfl | rfl | hc
    · decide
    · decide
    · exact hp c (by simpa using hc)
  · exact ⟨isPlain_of_parseDigits 10 _ 0 n h, by simp⟩
  · cases h

/-- No register's name is a number (R39, R91). -/
theorem registerOperand_of_parseNumber (cs : List Char) (n : Nat) (h : parseNumber cs = some n) :
    registerOperand cs = if n ≤ 9 then .ok n else .error .operandRange := by
  have hnone : registerNames.findIdx? (fun name => name.toList == cs) = none := by
    rw [List.findIdx?_eq_none_iff]
    intro name hname
    rw [beq_eq_false_iff_ne]
    rintro rfl
    have hall : ∀ name ∈ registerNames, parseNumber name.toList = none := by decide
    rw [hall name hname] at h
    cases h
  simp [registerOperand, hnone, numberOperand, h]

theorem numberOperand_of_parseNumber (max : Nat) (cs : List Char) (n : Nat) (h : parseNumber cs = some n) :
    numberOperand max cs = if n ≤ max then .ok n else .error .operandRange := by
  simp [numberOperand, h]

/-- Operands separated by a comma and a space (R90). -/
def joinOperands : List (List Char) → List Char
  | [] => []
  | [x] => x
  | x :: xs => x ++ ',' :: ' ' :: joinOperands xs

theorem isPlain_of_all (cs : List Char) (h : cs.all isPlainChar = true) : IsPlain cs := List.all_eq_true.1 h

/-! What each mnemonic with operands makes of them (R91, R92). -/

theorem assembleCommand_setc (kmax : MaxStage) (x y : List Char) :
    assembleCommand kmax "SETC".toList [x, y] = (do
      let ch ← numberOperand 2 x
      let v ← numberOperand 255 y
      return [.setc (BitVec.ofNat 2 ch) (BitVec.ofNat 8 v)]) := rfl

theorem assembleCommand_setrgb (kmax : MaxStage) (x y z : List Char) :
    assembleCommand kmax "SETRGB".toList [x, y, z] = (do
      let a ← numberOperand 255 x
      let b ← numberOperand 255 y
      let c ← numberOperand 255 z
      return [.setrgb (BitVec.ofNat 8 a) (BitVec.ofNat 8 b) (BitVec.ofNat 8 c)]) := rfl

theorem assembleCommand_show (kmax : MaxStage) (x y z : List Char) :
    assembleCommand kmax "SHOW".toList [x, y, z] = (do
      let a ← numberOperand 255 x
      let b ← numberOperand 255 y
      let c ← numberOperand 255 z
      return pseudoShow (BitVec.ofNat 8 a) (BitVec.ofNat 8 b) (BitVec.ofNat 8 c)) := rfl

theorem assembleCommand_wdcfg (kmax : MaxStage) (x : List Char) :
    assembleCommand kmax "WDCFG".toList [x] = (do
      let k ← numberOperand kmax.toNat x
      return [.wdcfg (BitVec.ofNat 3 k)]) := rfl

theorem assembleCommand_stage (kmax : MaxStage) (x : List Char) :
    assembleCommand kmax "STAGE".toList [x] = (do
      let k ← numberOperand kmax.toNat x
      return pseudoStage (BitVec.ofNat 3 k)) := rfl

theorem assembleCommand_nap (kmax : MaxStage) (x : List Char) :
    assembleCommand kmax "NAP".toList [x] = (do
      let t ← numberOperand 65535 x
      return [.nap (BitVec.ofNat 16 t)]) := rfl

theorem assembleCommand_rdreg (kmax : MaxStage) (x : List Char) :
    assembleCommand kmax "RDREG".toList [x] = (do
      let rn ← registerOperand x
      return [.rdreg (BitVec.ofNat 4 rn)]) := rfl

/-- A line's characters are plain ones, commas and spaces. -/
def IsLineText (cs : List Char) : Prop := ∀ c ∈ cs, isPlainChar c = true ∨ c = ',' ∨ c = ' '

theorem IsPlain.isLineText {cs : List Char} (h : IsPlain cs) : IsLineText cs := fun c hc => .inl (h c hc)

theorem joinOperands_isLineText (ops : List (List Char)) (h : ∀ x ∈ ops, IsPlain x) :
    IsLineText (joinOperands ops) := by
  induction ops with
  | nil => intro c hc; cases hc
  | cons x xs ih =>
    cases xs with
    | nil => exact (h x (by simp)).isLineText
    | cons y ys =>
      intro c hc
      simp only [joinOperands, List.mem_append, List.mem_cons] at hc
      rcases hc with hc | rfl | rfl | hc
      · exact .inl (h x (by simp) c hc)
      · exact .inr (.inl rfl)
      · exact .inr (.inr rfl)
      · exact ih (fun z hz => h z (by simp [hz])) c hc

theorem IsLineText.append {a b : List Char} (ha : IsLineText a) (hb : IsLineText b) : IsLineText (a ++ b) := by
  intro c hc
  rcases List.mem_append.1 hc with hc | hc
  · exact ha c hc
  · exact hb c hc

theorem IsLineText.not_mem {cs : List Char} (h : IsLineText cs) :
    ';' ∉ cs ∧ ':' ∉ cs ∧ '\n' ∉ cs := by
  refine ⟨fun hc => ?_, fun hc => ?_, fun hc => ?_⟩ <;> exact absurd (h _ hc) (by decide)

theorem isPlain_not_comma {cs : List Char} (h : IsPlain cs) : ',' ∉ cs :=
  fun hc => absurd (h _ hc) (by decide)

theorem isPlain_not_blank {cs : List Char} (h : IsPlain cs) : ∀ c ∈ cs, isBlankChar c = false := by
  intro c hc
  have hp := h c hc
  simp only [isPlainChar, Bool.and_eq_true, Bool.not_eq_true'] at hp
  exact hp.1.1.1.1

/-- A text that does not hold the separator is one piece. -/
theorem splitAtChar_of_not_mem (sep : Char) (cs : List Char) (h : sep ∉ cs) : splitAtChar sep cs = [cs] := by
  induction cs with
  | nil => rfl
  | cons c cs ih =>
    simp only [List.mem_cons, not_or] at h
    simp [splitAtChar, Ne.symm h.1, ih h.2]

theorem splitAtChar_append (sep : Char) (a b : List Char) (h : sep ∉ a) :
    splitAtChar sep (a ++ sep :: b) = a :: splitAtChar sep b := by
  induction a with
  | nil => simp [splitAtChar]
  | cons c cs ih =>
    simp only [List.mem_cons, not_or] at h
    simp [splitAtChar, Ne.symm h.1, ih h.2]

/-- A text whose two ends are no blanks is its own trimming. -/
theorem trimBlanks_eq_self (cs : List Char) (hfirst : ∀ c ∈ cs.head?, isBlankChar c = false)
    (hlast : ∀ c ∈ cs.getLast?, isBlankChar c = false) : trimBlanks cs = cs := by
  have hdrop : ∀ l : List Char, (∀ c ∈ l.head?, isBlankChar c = false) → l.dropWhile isBlankChar = l := by
    intro l hl
    cases l with
    | nil => rfl
    | cons c l => simp [hl c (by simp)]
  unfold trimBlanks
  rw [hdrop cs hfirst, hdrop cs.reverse (by simpa using hlast), List.reverse_reverse]

theorem trimBlanks_space (cs : List Char) : trimBlanks (' ' :: cs) = trimBlanks cs := by
  have h : isBlankChar ' ' = true := by decide
  simp [trimBlanks, h]

theorem IsPlain.trimBlanks {cs : List Char} (h : IsPlain cs) : trimBlanks cs = cs :=
  trimBlanks_eq_self cs (fun c hc => isPlain_not_blank h c (List.mem_of_mem_head? hc))
    (fun c hc => isPlain_not_blank h c (List.mem_of_getLast? hc))

/-- The operands of a line come apart again. -/
theorem split_joinOperands (ops : List (List Char)) (h : ∀ x ∈ ops, IsPlain x) (hne : ops ≠ []) :
    (splitAtChar ',' (joinOperands ops)).map Machine.trimBlanks = ops := by
  induction ops with
  | nil => exact absurd rfl hne
  | cons x xs ih =>
    have hx : IsPlain x := h x (by simp)
    cases xs with
    | nil => simp [joinOperands, splitAtChar_of_not_mem _ _ (isPlain_not_comma hx), hx.trimBlanks]
    | cons y ys =>
      have ih' := ih (fun z hz => h z (by simp [hz])) (by simp)
      have hsplit : ∀ cs, (splitAtChar ',' (' ' :: cs)).map Machine.trimBlanks
          = (splitAtChar ',' cs).map Machine.trimBlanks := by
        intro cs
        cases hcs : splitAtChar ',' cs with
        | nil =>
          exfalso
          cases cs with
          | nil => simp [splitAtChar] at hcs
          | cons c cs =>
            unfold splitAtChar at hcs
            split at hcs
            · cases hcs
            · split at hcs <;> cases hcs
        | cons p ps => simp [splitAtChar, hcs, trimBlanks_space]
      simp only [joinOperands]
      rw [splitAtChar_append _ _ _ (isPlain_not_comma hx), List.map_cons, hx.trimBlanks, hsplit, ih']

theorem joinOperands_ends (ops : List (List Char)) (h : ∀ x ∈ ops, IsPlain x ∧ x ≠ []) (hne : ops ≠ []) :
    joinOperands ops ≠ [] ∧ (∀ c ∈ (joinOperands ops).head?, isBlankChar c = false) ∧
      (∀ c ∈ (joinOperands ops).getLast?, isBlankChar c = false) := by
  induction ops with
  | nil => exact absurd rfl hne
  | cons x xs ih =>
    obtain ⟨hx, hx'⟩ := h x (by simp)
    have hhead : ∀ c ∈ x.head?, isBlankChar c = false :=
      fun c hc => isPlain_not_blank hx c (List.mem_of_mem_head? hc)
    cases xs with
    | nil =>
      exact ⟨hx', hhead, fun c hc => isPlain_not_blank hx c (List.mem_of_getLast? hc)⟩
    | cons y ys =>
      obtain ⟨i1, -, i3⟩ := ih (fun z hz => h z (by simp [hz])) (by simp)
      refine ⟨by simp [joinOperands], ?_, ?_⟩
      · cases x with
        | nil => exact absurd rfl hx'
        | cons c cs => simpa [joinOperands] using hhead
      · intro c hc
        apply i3
        simp only [joinOperands] at hc
        rw [List.getLast?_append_of_ne_nil _ (by simp)] at hc
        rw [show (',' :: ' ' :: joinOperands (y :: ys)) = [',', ' '] ++ joinOperands (y :: ys) from rfl,
          List.getLast?_append_of_ne_nil _ i1] at hc
        exact hc

/-- A mnemonic, a space and operands separated by commas are what the assembler takes the line for (R90). -/
theorem assembleLine_operands (kmax : MaxStage) (m : List Char) (ops : List (List Char)) (hm : IsPlain m)
    (hm' : m ≠ []) (h : ∀ x ∈ ops, IsPlain x ∧ x ≠ []) (hne : ops ≠ []) :
    assembleLine kmax (m ++ ' ' :: joinOperands ops) = assembleCommand kmax m ops := by
  obtain ⟨hj, hjf, hjl⟩ := joinOperands_ends ops h hne
  have hline : IsLineText (m ++ ' ' :: joinOperands ops) :=
    hm.isLineText.append (by
      intro c hc
      rcases List.mem_cons.1 hc with rfl | hc
      · exact .inr (.inr rfl)
      · exact joinOperands_isLineText ops (fun x hx => (h x hx).1) c hc)
  obtain ⟨hsemi, hcolon, -⟩ := hline.not_mem
  have hcomment : (m ++ ' ' :: joinOperands ops).takeWhile (· ≠ ';') = m ++ ' ' :: joinOperands ops := by
    rw [List.takeWhile_eq_self_iff]
    intro c hc
    have : c ≠ ';' := by
      rintro rfl
      exact hsemi hc
    simpa using this
  have hlabel : dropLabel (m ++ ' ' :: joinOperands ops) = .ok (m ++ ' ' :: joinOperands ops) := by
    have : (m ++ ' ' :: joinOperands ops).elem ':' = false := by
      rw [List.elem_eq_contains, List.contains_eq_mem]
      simpa using hcolon
    simp only [dropLabel, this]
    rfl
  have htrim : trimBlanks (m ++ ' ' :: joinOperands ops) = m ++ ' ' :: joinOperands ops := by
    apply trimBlanks_eq_self
    · intro c hc
      cases m with
      | nil => exact absurd rfl hm'
      | cons d m => exact isPlain_not_blank hm c (by simp at hc; simp [hc])
    · intro c hc
      apply hjl
      rwa [List.getLast?_append_of_ne_nil _ (by simp),
        show (' ' :: joinOperands ops) = [' '] ++ joinOperands ops from rfl,
        List.getLast?_append_of_ne_nil _ hj] at hc
  have hblank : isBlankChar ' ' = true := by decide
  have htake : (m ++ ' ' :: joinOperands ops).takeWhile (!isBlankChar ·) = m := by
    rw [List.takeWhile_append_of_pos (fun c hc => by simp [isPlain_not_blank hm c hc])]
    simp [hblank]
  have hdrop : (m ++ ' ' :: joinOperands ops).dropWhile (!isBlankChar ·) = ' ' :: joinOperands ops := by
    rw [List.dropWhile_append_of_pos (fun c hc => by simp [isPlain_not_blank hm c hc])]
    simp [hblank]
  have hops : trimBlanks (' ' :: joinOperands ops) = joinOperands ops := by
    rw [trimBlanks_space, trimBlanks_eq_self _ hjf hjl]
  have hbody : (m ++ ' ' :: joinOperands ops).isEmpty = false := by simp
  have hopse : (joinOperands ops).isEmpty = false := by simpa using hj
  unfold assembleLine
  rw [hcomment, hlabel]
  show (if (trimBlanks (m ++ ' ' :: joinOperands ops)).isEmpty = true then _ else _) = _
  rw [htrim, hbody, htake, hdrop, hops, hopse, if_neg (by decide), if_neg (by decide),
    split_joinOperands ops (fun x hx => (h x hx).1) hne]

/-- A source of one such line (R90). -/
theorem assemble_operands (kmax : MaxStage) (m : List Char) (ops : List (List Char)) (hm : IsPlain m)
    (hm' : m ≠ []) (h : ∀ x ∈ ops, IsPlain x ∧ x ≠ []) (hne : ops ≠ []) :
    assemble kmax (m ++ ' ' :: joinOperands ops) =
      (assembleCommand kmax m ops).map (List.map encode) := by
  have hline : IsLineText (m ++ ' ' :: joinOperands ops) :=
    hm.isLineText.append (by
      intro c hc
      rcases List.mem_cons.1 hc with rfl | hc
      · exact .inr (.inr rfl)
      · exact joinOperands_isLineText ops (fun x hx => (h x hx).1) c hc)
  unfold assemble
  rw [splitAtChar_of_not_mem _ _ hline.not_mem.2.2, assembleLines, assembleLine_operands _ _ _ hm hm' h hne]
  cases assembleCommand kmax m ops with
  | error e => rfl
  | ok is => simp [assembleLines, bind, Except.bind, Except.map, pure, Except.pure]

end Sys2Proof.Machine
end

