-- ==== Sys2Proof/Laws/Encoding.lean ====
section
/-! SUPPORT. The fields of an encoded word: the opcode stands in bits 31:24 and the format's fields in bits
23:0 (R76, R77), so each slice of a word that the decoder takes is a slice of the command's own fields. -/
namespace Sys2Proof

/-- Bit j of an encoded word (R77). -/
theorem getLsbD_encode (i : Instr) (j : Nat) :
    (encode i).getLsbD j = if j < 24 then i.fieldBits.getLsbD j else i.opcode.getLsbD (j - 24) :=
  BitVec.getLsbD_append

/-- Bit j of bits 23:0 of a SETC: `V` in 7:0, `CH` in 17:16, the rest 0 (R79). -/
theorem getLsbD_fieldBits_setc (ch : Channel) (v : Byte) (j : Nat) :
    (Instr.setc ch v).fieldBits.getLsbD j =
      if j < 8 then v.getLsbD j else if j < 16 then false else ch.getLsbD (j - 16) := by
  show (0#6 ++ ch ++ (0#8 ++ v)).getLsbD j = _
  rw [BitVec.getLsbD_append, BitVec.getLsbD_append, BitVec.getLsbD_append]
  by_cases h8 : j < 8
  · simp [h8, show j < 16 by omega]
  · by_cases h16 : j < 16
    · simp [h8, h16]
    · by_cases h18 : j - 16 < 2
      · simp [h8, h16, h18]
      · simp [h8, h16, h18, BitVec.getLsbD_of_ge ch (j - 16) (by omega)]

/-- Bit j of bits 23:0 of a SETRGB: channel 2 in 7:0, channel 1 in 15:8, channel 0 in 23:16 (R80, R64). -/
theorem getLsbD_fieldBits_setrgb (v0 v1 v2 : Byte) (j : Nat) :
    (Instr.setrgb v0 v1 v2).fieldBits.getLsbD j =
      if j < 8 then v2.getLsbD j else if j - 8 < 8 then v1.getLsbD (j - 8)
      else v0.getLsbD (j - 8 - 8) := by
  show (v0 ++ v1 ++ v2).getLsbD j = _
  rw [BitVec.getLsbD_append, BitVec.getLsbD_append]

/-- Bit j of bits 23:0 of a WDCFG: `K` in 2:0, the rest 0 (R81). -/
theorem getLsbD_fieldBits_wdcfg (k : Stage) (j : Nat) :
    (Instr.wdcfg k).fieldBits.getLsbD j = k.getLsbD j := by
  show (0#21 ++ k).getLsbD j = _
  rw [BitVec.getLsbD_append]
  by_cases h : j < 3
  · simp [h]
  · simp [h, BitVec.getLsbD_of_ge k j (by omega)]

/-- Bit j of bits 23:0 of a NAP: `T` in 15:0, the rest 0 (R82). -/
theorem getLsbD_fieldBits_nap (t : Ticks) (j : Nat) :
    (Instr.nap t).fieldBits.getLsbD j = t.getLsbD j := by
  show (0#8 ++ t).getLsbD j = _
  rw [BitVec.getLsbD_append]
  by_cases h : j < 16
  · simp [h]
  · simp [h, BitVec.getLsbD_of_ge t j (by omega)]

/-- Bit j of bits 23:0 of an RDREG: `RN` in 3:0, the rest 0 (R83). -/
theorem getLsbD_fieldBits_rdreg (rn : RegNum) (j : Nat) :
    (Instr.rdreg rn).fieldBits.getLsbD j = rn.getLsbD j := by
  show (0#20 ++ rn).getLsbD j = _
  rw [BitVec.getLsbD_append]
  by_cases h : j < 4
  · simp [h]
  · simp [h, BitVec.getLsbD_of_ge rn j (by omega)]

theorem opcodeField_encode (i : Instr) : opcodeField (encode i) = i.opcode := by
  unfold opcodeField
  apply BitVec.eq_of_getLsbD_eq
  intro j hj
  rw [BitVec.getLsbD_extractLsb', getLsbD_encode]
  simp [hj]

/-- A slice that lies in bits 23:0 is taken from the format's fields. -/
theorem extractLsb'_encode (i : Instr) (lo n : Nat) (h : lo + n ≤ 24) :
    (encode i).extractLsb' lo n = i.fieldBits.extractLsb' lo n := by
  apply BitVec.eq_of_getLsbD_eq
  intro j hj
  rw [BitVec.getLsbD_extractLsb', BitVec.getLsbD_extractLsb', getLsbD_encode]
  simp [show lo + j < 24 by omega]

/-- Four stored bytes give back the word they were made from (R63). -/
theorem wordOfBytes_slices (w : Word) :
    wordOfBytes (w.extractLsb' 24 8) (w.extractLsb' 16 8) (w.extractLsb' 8 8) (w.extractLsb' 0 8) = w := by
  unfold wordOfBytes
  apply BitVec.eq_of_getLsbD_eq
  intro j hj
  simp only [BitVec.getLsbD_append, BitVec.getLsbD_extractLsb']
  by_cases h0 : j < 8
  · simp [h0]
  · by_cases h1 : j < 16
    · simp [h0, show j - 8 < 8 by omega, show 8 + (j - 8) = j by omega]
    · by_cases h2 : j < 24
      · simp [h0, show ¬ j - 8 < 8 by omega, show j - 8 - 8 < 8 by omega,
          show 16 + (j - 8 - 8) = j by omega]
      · simp [h0, show ¬ j - 8 < 8 by omega, show ¬ j - 8 - 8 < 8 by omega,
          show j - 8 - 8 - 8 < 8 by omega, show 24 + (j - 8 - 8 - 8) = j by omega]

/-- The opcode map's rows cannot both match one word: some bit that both masks cover differs (R85). -/
theorem opcodeTable_disjoint :
    opcodeTable.Pairwise fun r r' => (r.mask &&& r'.mask) &&& (r.val ^^^ r'.val) ≠ 0#32 := by
  decide

end Sys2Proof
end

