-- ==== Sys2Proof/Laws/Ladder.lean ====
section
/-! SUPPORT. What one stage of the ladder's loop does, said once (R120): it takes the stage as often as its
period fits, and leaves the remainder. -/
namespace Sys2Proof.Machine

/-- The period of a stage is `16 × 2^k` ticks and does not wrap (R11, R124). -/
theorem stagePeriod_toNat (k : Stage) : (stagePeriod k).toNat = 16 * 2 ^ k.toNat := by
  revert k
  decide

theorem stagePeriod_pos (k : Stage) : 0 < (stagePeriod k).toNat := by
  rw [stagePeriod_toNat]
  positivity

/-- With fuel for every iteration, the inner loop of R120 takes the stage `rem div period` times and leaves
`rem mod period`. -/
theorem takeStage_eq (k : Stage) (fuel : Nat) (rem : Ticks)
    (h : rem.toNat < (fuel + 1) * (stagePeriod k).toNat) :
    (takeStage k fuel rem).1 = List.replicate (rem.toNat / (stagePeriod k).toNat) k ∧
      (takeStage k fuel rem).2.toNat = rem.toNat % (stagePeriod k).toNat := by
  have hp := stagePeriod_pos k
  induction fuel generalizing rem with
  | zero =>
    have hlt : rem.toNat < (stagePeriod k).toNat := by simpa using h
    simp [takeStage, Nat.div_eq_of_lt hlt, Nat.mod_eq_of_lt hlt]
  | succ fuel ih =>
    unfold takeStage
    by_cases hle : stagePeriod k ≤ rem
    · have hle' : (stagePeriod k).toNat ≤ rem.toNat := BitVec.le_def.1 hle
      have hsub : (rem - stagePeriod k).toNat = rem.toNat - (stagePeriod k).toNat :=
        BitVec.toNat_sub_of_le hle
      obtain ⟨h1, h2⟩ := ih (rem - stagePeriod k) (by
        rw [hsub]
        have : (fuel + 1 + 1) * (stagePeriod k).toNat
            = (fuel + 1) * (stagePeriod k).toNat + (stagePeriod k).toNat := by ring
        omega)
      rw [if_pos hle]
      refine ⟨?_, ?_⟩
      · show k :: (takeStage k fuel (rem - stagePeriod k)).1 = _
        rw [h1, hsub, ← List.replicate_succ]
        congr 1
        rw [Nat.div_eq_sub_div hp hle']
      · show (takeStage k fuel (rem - stagePeriod k)).2.toNat = _
        rw [h2, hsub, ← Nat.mod_eq_sub_mod hle']
    · have hlt : rem.toNat < (stagePeriod k).toNat := by
        rw [BitVec.le_def] at hle
        omega
      simp [hle, Nat.div_eq_of_lt hlt, Nat.mod_eq_of_lt hlt]

/-- The fuel of `ladderFrom` is enough for every remainder and stage. -/
theorem takeStage_ladder (k : Stage) (rem : Ticks) :
    (takeStage k 4096 rem).1 = List.replicate (rem.toNat / (16 * 2 ^ k.toNat)) k ∧
      (takeStage k 4096 rem).2.toNat = rem.toNat % (16 * 2 ^ k.toNat) := by
  have h := takeStage_eq k 4096 rem (by
    rw [stagePeriod_toNat]
    have h1 : rem.toNat < 2 ^ 16 := rem.isLt
    have h2 : 1 ≤ 2 ^ k.toNat := Nat.one_le_two_pow
    omega)
  rwa [stagePeriod_toNat] at h

/-- One stage of the outer loop. -/
theorem ladderFrom_cons (k : Stage) (stages : List Stage) (rem : Ticks) :
    ladderFrom (k :: stages) rem =
      ((takeStage k 4096 rem).1 ++ (ladderFrom stages (takeStage k 4096 rem).2).1,
        (ladderFrom stages (takeStage k 4096 rem).2).2) := rfl

end Sys2Proof.Machine
end

