-- ==== Sys2Proof/Laws/PerInstr.lean ====
section
/-! SUPPORT. Families of statements made per constructor of Instr. `MatchesRow`: the word of a command matches
the row of R85's opcode map that bears its mnemonic. -/
namespace Sys2Proof.Laws

/-- The command's word matches the row of the opcode map with its name (R85). -/
def MatchesRow.Statement (i : Instr) : Prop :=
  ∃ r ∈ opcodeTable, r.mnemonic = i.mnemonic ∧ r.matches (encode i)

theorem MatchesRow.nop : MatchesRow.Statement .nop :=
  ⟨⟨"NOP", 0xFFFFFFFF#32, 0x00000000#32⟩, by decide, rfl, by decide⟩

theorem MatchesRow.init : MatchesRow.Statement .init :=
  ⟨⟨"INIT", 0xFFFFFFFF#32, 0x01000000#32⟩, by decide, rfl, by decide⟩

theorem MatchesRow.setc (ch : Channel) (v : Byte) : MatchesRow.Statement (.setc ch v) := by
  refine ⟨⟨"SETC", 0xFFFCFF00#32, 0x02000000#32⟩, by decide, rfl, ?_⟩
  apply BitVec.eq_of_getLsbD_eq
  intro j hj
  rw [BitVec.getLsbD_and, getLsbD_encode, getLsbD_fieldBits_setc]
  interval_cases j <;> simp [Instr.opcode]

theorem MatchesRow.setrgb (v0 v1 v2 : Byte) : MatchesRow.Statement (.setrgb v0 v1 v2) := by
  refine ⟨⟨"SETRGB", 0xFF000000#32, 0x03000000#32⟩, by decide, rfl, ?_⟩
  apply BitVec.eq_of_getLsbD_eq
  intro j hj
  rw [BitVec.getLsbD_and, getLsbD_encode, getLsbD_fieldBits_setrgb]
  interval_cases j <;> simp [Instr.opcode]

theorem MatchesRow.tx : MatchesRow.Statement .tx :=
  ⟨⟨"TX", 0xFFFFFFFF#32, 0x04000000#32⟩, by decide, rfl, by decide⟩

theorem MatchesRow.cli : MatchesRow.Statement .cli :=
  ⟨⟨"CLI", 0xFFFFFFFF#32, 0x05000000#32⟩, by decide, rfl, by decide⟩

theorem MatchesRow.sei : MatchesRow.Statement .sei :=
  ⟨⟨"SEI", 0xFFFFFFFF#32, 0x06000000#32⟩, by decide, rfl, by decide⟩

theorem MatchesRow.halt : MatchesRow.Statement .halt :=
  ⟨⟨"HALT", 0xFFFFFFFF#32, 0x07000000#32⟩, by decide, rfl, by decide⟩

theorem MatchesRow.wdcfg (k : Stage) : MatchesRow.Statement (.wdcfg k) := by
  refine ⟨⟨"WDCFG", 0xFFFFFFF8#32, 0x08000000#32⟩, by decide, rfl, ?_⟩
  revert k
  decide

theorem MatchesRow.wdstop : MatchesRow.Statement .wdstop :=
  ⟨⟨"WDSTOP", 0xFFFFFFFF#32, 0x09000000#32⟩, by decide, rfl, by decide⟩

theorem MatchesRow.nap (t : Ticks) : MatchesRow.Statement (.nap t) := by
  refine ⟨⟨"NAP", 0xFFFF0000#32, 0x0A000000#32⟩, by decide, rfl, ?_⟩
  apply BitVec.eq_of_getLsbD_eq
  intro j hj
  rw [BitVec.getLsbD_and, getLsbD_encode, getLsbD_fieldBits_nap]
  interval_cases j <;> simp [Instr.opcode]

theorem MatchesRow.sample : MatchesRow.Statement .sample :=
  ⟨⟨"SAMPLE", 0xFFFFFFFF#32, 0x0B000000#32⟩, by decide, rfl, by decide⟩

theorem MatchesRow.rdreg (rn : RegNum) : MatchesRow.Statement (.rdreg rn) := by
  refine ⟨⟨"RDREG", 0xFFFFFFF0#32, 0x0C000000#32⟩, by decide, rfl, ?_⟩
  revert rn
  decide

end Sys2Proof.Laws
end

