-- ==== Sys2Proof/Laws/State.lean ====
section
/-! SUPPORT. The fields after each named update of the state, one lemma per field and update, each true by
rfl; composite updates are rewritten to the ones they are made of. -/
namespace Sys2Proof.Machine

variable (s : State)

/-! `setI` -/

@[simp] theorem State.setI_cp (b : Bool) : (s.setI b).cp = s.cp := rfl
@[simp] theorem State.setI_mq (b : Bool) : (s.setI b).mq = s.mq := rfl
@[simp] theorem State.setI_I (b : Bool) : (s.setI b).I = b := rfl
@[simp] theorem State.setI_shadow (b : Bool) : (s.setI b).shadow = s.shadow := rfl
@[simp] theorem State.setI_halted (b : Bool) : (s.setI b).halted = s.halted := rfl
@[simp] theorem State.setI_hwait (b : Bool) : (s.setI b).hwait = s.hwait := rfl
@[simp] theorem State.setI_color (b : Bool) : (s.setI b).color = s.color := rfl
@[simp] theorem State.setI_ddata (b : Bool) : (s.setI b).ddata = s.ddata := rfl
@[simp] theorem State.setI_line (b : Bool) : (s.setI b).line = s.line := rfl
@[simp] theorem State.setI_latchok (b : Bool) : (s.setI b).latchok = s.latchok := rfl
@[simp] theorem State.setI_wdk (b : Bool) : (s.setI b).wdk = s.wdk := rfl
@[simp] theorem State.setI_wden (b : Bool) : (s.setI b).wden = s.wden := rfl
@[simp] theorem State.setI_wdfresh (b : Bool) : (s.setI b).wdfresh = s.wdfresh := rfl
@[simp] theorem State.setI_wdie (b : Bool) : (s.setI b).wdie = s.wdie := rfl
@[simp] theorem State.setI_wdif (b : Bool) : (s.setI b).wdif = s.wdif := rfl
@[simp] theorem State.setI_dspwr (b : Bool) : (s.setI b).dspwr = s.dspwr := rfl
@[simp] theorem State.setI_spwr (b : Bool) : (s.setI b).spwr = s.spwr := rfl
@[simp] theorem State.setI_didr (b : Bool) : (s.setI b).didr = s.didr := rfl
@[simp] theorem State.setI_aden (b : Bool) : (s.setI b).aden = s.aden := rfl
@[simp] theorem State.setI_adsc (b : Bool) : (s.setI b).adsc = s.adsc := rfl
@[simp] theorem State.setI_adie (b : Bool) : (s.setI b).adie = s.adie := rfl
@[simp] theorem State.setI_adif (b : Bool) : (s.setI b).adif = s.adif := rfl
@[simp] theorem State.setI_adres (b : Bool) : (s.setI b).adres = s.adres := rfl
@[simp] theorem State.setI_sample (b : Bool) : (s.setI b).sample = s.sample := rfl
@[simp] theorem State.setI_naprem (b : Bool) : (s.setI b).naprem = s.naprem := rfl
@[simp] theorem State.setI_resp (b : Bool) : (s.setI b).resp = s.resp := rfl
@[simp] theorem State.setI_fault (b : Bool) : (s.setI b).fault = s.fault := rfl
@[simp] theorem State.setI_trace (b : Bool) : (s.setI b).trace = s.trace := rfl
@[simp] theorem State.setI_cfg (b : Bool) : (s.setI b).cfg = s.cfg := rfl
@[simp] theorem State.setI_prog (b : Bool) : (s.setI b).prog = s.prog := rfl
@[simp] theorem State.setI_sched (b : Bool) : (s.setI b).sched = s.sched := rfl
@[simp] theorem State.setI_freeTurns (b : Bool) : (s.setI b).freeTurns = s.freeTurns := rfl

/-! `setShadow` -/

@[simp] theorem State.setShadow_cp (b : Bool) : (s.setShadow b).cp = s.cp := rfl
@[simp] theorem State.setShadow_mq (b : Bool) : (s.setShadow b).mq = s.mq := rfl
@[simp] theorem State.setShadow_I (b : Bool) : (s.setShadow b).I = s.I := rfl
@[simp] theorem State.setShadow_shadow (b : Bool) : (s.setShadow b).shadow = b := rfl
@[simp] theorem State.setShadow_halted (b : Bool) : (s.setShadow b).halted = s.halted := rfl
@[simp] theorem State.setShadow_hwait (b : Bool) : (s.setShadow b).hwait = s.hwait := rfl
@[simp] theorem State.setShadow_color (b : Bool) : (s.setShadow b).color = s.color := rfl
@[simp] theorem State.setShadow_ddata (b : Bool) : (s.setShadow b).ddata = s.ddata := rfl
@[simp] theorem State.setShadow_line (b : Bool) : (s.setShadow b).line = s.line := rfl
@[simp] theorem State.setShadow_latchok (b : Bool) : (s.setShadow b).latchok = s.latchok := rfl
@[simp] theorem State.setShadow_wdk (b : Bool) : (s.setShadow b).wdk = s.wdk := rfl
@[simp] theorem State.setShadow_wden (b : Bool) : (s.setShadow b).wden = s.wden := rfl
@[simp] theorem State.setShadow_wdfresh (b : Bool) : (s.setShadow b).wdfresh = s.wdfresh := rfl
@[simp] theorem State.setShadow_wdie (b : Bool) : (s.setShadow b).wdie = s.wdie := rfl
@[simp] theorem State.setShadow_wdif (b : Bool) : (s.setShadow b).wdif = s.wdif := rfl
@[simp] theorem State.setShadow_dspwr (b : Bool) : (s.setShadow b).dspwr = s.dspwr := rfl
@[simp] theorem State.setShadow_spwr (b : Bool) : (s.setShadow b).spwr = s.spwr := rfl
@[simp] theorem State.setShadow_didr (b : Bool) : (s.setShadow b).didr = s.didr := rfl
@[simp] theorem State.setShadow_aden (b : Bool) : (s.setShadow b).aden = s.aden := rfl
@[simp] theorem State.setShadow_adsc (b : Bool) : (s.setShadow b).adsc = s.adsc := rfl
@[simp] theorem State.setShadow_adie (b : Bool) : (s.setShadow b).adie = s.adie := rfl
@[simp] theorem State.setShadow_adif (b : Bool) : (s.setShadow b).adif = s.adif := rfl
@[simp] theorem State.setShadow_adres (b : Bool) : (s.setShadow b).adres = s.adres := rfl
@[simp] theorem State.setShadow_sample (b : Bool) : (s.setShadow b).sample = s.sample := rfl
@[simp] theorem State.setShadow_naprem (b : Bool) : (s.setShadow b).naprem = s.naprem := rfl
@[simp] theorem State.setShadow_resp (b : Bool) : (s.setShadow b).resp = s.resp := rfl
@[simp] theorem State.setShadow_fault (b : Bool) : (s.setShadow b).fault = s.fault := rfl
@[simp] theorem State.setShadow_trace (b : Bool) : (s.setShadow b).trace = s.trace := rfl
@[simp] theorem State.setShadow_cfg (b : Bool) : (s.setShadow b).cfg = s.cfg := rfl
@[simp] theorem State.setShadow_prog (b : Bool) : (s.setShadow b).prog = s.prog := rfl
@[simp] theorem State.setShadow_sched (b : Bool) : (s.setShadow b).sched = s.sched := rfl
@[simp] theorem State.setShadow_freeTurns (b : Bool) : (s.setShadow b).freeTurns = s.freeTurns := rfl

/-! `emit` -/

@[simp] theorem State.emit_cp (e : Event) : (s.emit e).cp = s.cp := rfl
@[simp] theorem State.emit_mq (e : Event) : (s.emit e).mq = s.mq := rfl
@[simp] theorem State.emit_I (e : Event) : (s.emit e).I = s.I := rfl
@[simp] theorem State.emit_shadow (e : Event) : (s.emit e).shadow = s.shadow := rfl
@[simp] theorem State.emit_halted (e : Event) : (s.emit e).halted = s.halted := rfl
@[simp] theorem State.emit_hwait (e : Event) : (s.emit e).hwait = s.hwait := rfl
@[simp] theorem State.emit_color (e : Event) : (s.emit e).color = s.color := rfl
@[simp] theorem State.emit_ddata (e : Event) : (s.emit e).ddata = s.ddata := rfl
@[simp] theorem State.emit_line (e : Event) : (s.emit e).line = s.line := rfl
@[simp] theorem State.emit_latchok (e : Event) : (s.emit e).latchok = s.latchok := rfl
@[simp] theorem State.emit_wdk (e : Event) : (s.emit e).wdk = s.wdk := rfl
@[simp] theorem State.emit_wden (e : Event) : (s.emit e).wden = s.wden := rfl
@[simp] theorem State.emit_wdfresh (e : Event) : (s.emit e).wdfresh = s.wdfresh := rfl
@[simp] theorem State.emit_wdie (e : Event) : (s.emit e).wdie = s.wdie := rfl
@[simp] theorem State.emit_wdif (e : Event) : (s.emit e).wdif = s.wdif := rfl
@[simp] theorem State.emit_dspwr (e : Event) : (s.emit e).dspwr = s.dspwr := rfl
@[simp] theorem State.emit_spwr (e : Event) : (s.emit e).spwr = s.spwr := rfl
@[simp] theorem State.emit_didr (e : Event) : (s.emit e).didr = s.didr := rfl
@[simp] theorem State.emit_aden (e : Event) : (s.emit e).aden = s.aden := rfl
@[simp] theorem State.emit_adsc (e : Event) : (s.emit e).adsc = s.adsc := rfl
@[simp] theorem State.emit_adie (e : Event) : (s.emit e).adie = s.adie := rfl
@[simp] theorem State.emit_adif (e : Event) : (s.emit e).adif = s.adif := rfl
@[simp] theorem State.emit_adres (e : Event) : (s.emit e).adres = s.adres := rfl
@[simp] theorem State.emit_sample (e : Event) : (s.emit e).sample = s.sample := rfl
@[simp] theorem State.emit_naprem (e : Event) : (s.emit e).naprem = s.naprem := rfl
@[simp] theorem State.emit_resp (e : Event) : (s.emit e).resp = s.resp := rfl
@[simp] theorem State.emit_fault (e : Event) : (s.emit e).fault = s.fault := rfl
@[simp] theorem State.emit_trace (e : Event) : (s.emit e).trace = s.trace ++ [e] := rfl
@[simp] theorem State.emit_cfg (e : Event) : (s.emit e).cfg = s.cfg := rfl
@[simp] theorem State.emit_prog (e : Event) : (s.emit e).prog = s.prog := rfl
@[simp] theorem State.emit_sched (e : Event) : (s.emit e).sched = s.sched := rfl
@[simp] theorem State.emit_freeTurns (e : Event) : (s.emit e).freeTurns = s.freeTurns := rfl

/-! `advance` -/

@[simp] theorem State.advance_cp : s.advance.cp = s.cp + 1 := rfl
@[simp] theorem State.advance_mq : s.advance.mq = s.mq := rfl
@[simp] theorem State.advance_I : s.advance.I = s.I := rfl
@[simp] theorem State.advance_shadow : s.advance.shadow = s.shadow := rfl
@[simp] theorem State.advance_halted : s.advance.halted = s.halted := rfl
@[simp] theorem State.advance_hwait : s.advance.hwait = s.hwait := rfl
@[simp] theorem State.advance_color : s.advance.color = s.color := rfl
@[simp] theorem State.advance_ddata : s.advance.ddata = s.ddata := rfl
@[simp] theorem State.advance_line : s.advance.line = s.line := rfl
@[simp] theorem State.advance_latchok : s.advance.latchok = s.latchok := rfl
@[simp] theorem State.advance_wdk : s.advance.wdk = s.wdk := rfl
@[simp] theorem State.advance_wden : s.advance.wden = s.wden := rfl
@[simp] theorem State.advance_wdfresh : s.advance.wdfresh = s.wdfresh := rfl
@[simp] theorem State.advance_wdie : s.advance.wdie = s.wdie := rfl
@[simp] theorem State.advance_wdif : s.advance.wdif = s.wdif := rfl
@[simp] theorem State.advance_dspwr : s.advance.dspwr = s.dspwr := rfl
@[simp] theorem State.advance_spwr : s.advance.spwr = s.spwr := rfl
@[simp] theorem State.advance_didr : s.advance.didr = s.didr := rfl
@[simp] theorem State.advance_aden : s.advance.aden = s.aden := rfl
@[simp] theorem State.advance_adsc : s.advance.adsc = s.adsc := rfl
@[simp] theorem State.advance_adie : s.advance.adie = s.adie := rfl
@[simp] theorem State.advance_adif : s.advance.adif = s.adif := rfl
@[simp] theorem State.advance_adres : s.advance.adres = s.adres := rfl
@[simp] theorem State.advance_sample : s.advance.sample = s.sample := rfl
@[simp] theorem State.advance_naprem : s.advance.naprem = s.naprem := rfl
@[simp] theorem State.advance_resp : s.advance.resp = s.resp := rfl
@[simp] theorem State.advance_fault : s.advance.fault = s.fault := rfl
@[simp] theorem State.advance_trace : s.advance.trace = s.trace := rfl
@[simp] theorem State.advance_cfg : s.advance.cfg = s.cfg := rfl
@[simp] theorem State.advance_prog : s.advance.prog = s.prog := rfl
@[simp] theorem State.advance_sched : s.advance.sched = s.sched := rfl
@[simp] theorem State.advance_freeTurns : s.advance.freeTurns = s.freeTurns := rfl

/-! `setQueue` -/

@[simp] theorem State.setQueue_cp (q : List MicroOp) : (s.setQueue q).cp = s.cp := rfl
@[simp] theorem State.setQueue_mq (q : List MicroOp) : (s.setQueue q).mq = q := rfl
@[simp] theorem State.setQueue_I (q : List MicroOp) : (s.setQueue q).I = s.I := rfl
@[simp] theorem State.setQueue_shadow (q : List MicroOp) : (s.setQueue q).shadow = s.shadow := rfl
@[simp] theorem State.setQueue_halted (q : List MicroOp) : (s.setQueue q).halted = s.halted := rfl
@[simp] theorem State.setQueue_hwait (q : List MicroOp) : (s.setQueue q).hwait = s.hwait := rfl
@[simp] theorem State.setQueue_color (q : List MicroOp) : (s.setQueue q).color = s.color := rfl
@[simp] theorem State.setQueue_ddata (q : List MicroOp) : (s.setQueue q).ddata = s.ddata := rfl
@[simp] theorem State.setQueue_line (q : List MicroOp) : (s.setQueue q).line = s.line := rfl
@[simp] theorem State.setQueue_latchok (q : List MicroOp) : (s.setQueue q).latchok = s.latchok := rfl
@[simp] theorem State.setQueue_wdk (q : List MicroOp) : (s.setQueue q).wdk = s.wdk := rfl
@[simp] theorem State.setQueue_wden (q : List MicroOp) : (s.setQueue q).wden = s.wden := rfl
@[simp] theorem State.setQueue_wdfresh (q : List MicroOp) : (s.setQueue q).wdfresh = s.wdfresh := rfl
@[simp] theorem State.setQueue_wdie (q : List MicroOp) : (s.setQueue q).wdie = s.wdie := rfl
@[simp] theorem State.setQueue_wdif (q : List MicroOp) : (s.setQueue q).wdif = s.wdif := rfl
@[simp] theorem State.setQueue_dspwr (q : List MicroOp) : (s.setQueue q).dspwr = s.dspwr := rfl
@[simp] theorem State.setQueue_spwr (q : List MicroOp) : (s.setQueue q).spwr = s.spwr := rfl
@[simp] theorem State.setQueue_didr (q : List MicroOp) : (s.setQueue q).didr = s.didr := rfl
@[simp] theorem State.setQueue_aden (q : List MicroOp) : (s.setQueue q).aden = s.aden := rfl
@[simp] theorem State.setQueue_adsc (q : List MicroOp) : (s.setQueue q).adsc = s.adsc := rfl
@[simp] theorem State.setQueue_adie (q : List MicroOp) : (s.setQueue q).adie = s.adie := rfl
@[simp] theorem State.setQueue_adif (q : List MicroOp) : (s.setQueue q).adif = s.adif := rfl
@[simp] theorem State.setQueue_adres (q : List MicroOp) : (s.setQueue q).adres = s.adres := rfl
@[simp] theorem State.setQueue_sample (q : List MicroOp) : (s.setQueue q).sample = s.sample := rfl
@[simp] theorem State.setQueue_naprem (q : List MicroOp) : (s.setQueue q).naprem = s.naprem := rfl
@[simp] theorem State.setQueue_resp (q : List MicroOp) : (s.setQueue q).resp = s.resp := rfl
@[simp] theorem State.setQueue_fault (q : List MicroOp) : (s.setQueue q).fault = s.fault := rfl
@[simp] theorem State.setQueue_trace (q : List MicroOp) : (s.setQueue q).trace = s.trace := rfl
@[simp] theorem State.setQueue_cfg (q : List MicroOp) : (s.setQueue q).cfg = s.cfg := rfl
@[simp] theorem State.setQueue_prog (q : List MicroOp) : (s.setQueue q).prog = s.prog := rfl
@[simp] theorem State.setQueue_sched (q : List MicroOp) : (s.setQueue q).sched = s.sched := rfl
@[simp] theorem State.setQueue_freeTurns (q : List MicroOp) : (s.setQueue q).freeTurns = s.freeTurns := rfl

/-! `enterHalt` -/

@[simp] theorem State.enterHalt_cp (w : HaltWait) : (s.enterHalt w).cp = s.cp := rfl
@[simp] theorem State.enterHalt_mq (w : HaltWait) : (s.enterHalt w).mq = s.mq := rfl
@[simp] theorem State.enterHalt_I (w : HaltWait) : (s.enterHalt w).I = s.I := rfl
@[simp] theorem State.enterHalt_shadow (w : HaltWait) : (s.enterHalt w).shadow = false := rfl
@[simp] theorem State.enterHalt_halted (w : HaltWait) : (s.enterHalt w).halted = true := rfl
@[simp] theorem State.enterHalt_hwait (w : HaltWait) : (s.enterHalt w).hwait = w := rfl
@[simp] theorem State.enterHalt_color (w : HaltWait) : (s.enterHalt w).color = s.color := rfl
@[simp] theorem State.enterHalt_ddata (w : HaltWait) : (s.enterHalt w).ddata = s.ddata := rfl
@[simp] theorem State.enterHalt_line (w : HaltWait) : (s.enterHalt w).line = s.line := rfl
@[simp] theorem State.enterHalt_latchok (w : HaltWait) : (s.enterHalt w).latchok = s.latchok := rfl
@[simp] theorem State.enterHalt_wdk (w : HaltWait) : (s.enterHalt w).wdk = s.wdk := rfl
@[simp] theorem State.enterHalt_wden (w : HaltWait) : (s.enterHalt w).wden = s.wden := rfl
@[simp] theorem State.enterHalt_wdfresh (w : HaltWait) : (s.enterHalt w).wdfresh = s.wdfresh := rfl
@[simp] theorem State.enterHalt_wdie (w : HaltWait) : (s.enterHalt w).wdie = s.wdie := rfl
@[simp] theorem State.enterHalt_wdif (w : HaltWait) : (s.enterHalt w).wdif = s.wdif := rfl
@[simp] theorem State.enterHalt_dspwr (w : HaltWait) : (s.enterHalt w).dspwr = s.dspwr := rfl
@[simp] theorem State.enterHalt_spwr (w : HaltWait) : (s.enterHalt w).spwr = s.spwr := rfl
@[simp] theorem State.enterHalt_didr (w : HaltWait) : (s.enterHalt w).didr = s.didr := rfl
@[simp] theorem State.enterHalt_aden (w : HaltWait) : (s.enterHalt w).aden = s.aden := rfl
@[simp] theorem State.enterHalt_adsc (w : HaltWait) : (s.enterHalt w).adsc = s.adsc := rfl
@[simp] theorem State.enterHalt_adie (w : HaltWait) : (s.enterHalt w).adie = s.adie := rfl
@[simp] theorem State.enterHalt_adif (w : HaltWait) : (s.enterHalt w).adif = s.adif := rfl
@[simp] theorem State.enterHalt_adres (w : HaltWait) : (s.enterHalt w).adres = s.adres := rfl
@[simp] theorem State.enterHalt_sample (w : HaltWait) : (s.enterHalt w).sample = s.sample := rfl
@[simp] theorem State.enterHalt_naprem (w : HaltWait) : (s.enterHalt w).naprem = s.naprem := rfl
@[simp] theorem State.enterHalt_resp (w : HaltWait) : (s.enterHalt w).resp = s.resp := rfl
@[simp] theorem State.enterHalt_fault (w : HaltWait) : (s.enterHalt w).fault = s.fault := rfl
@[simp] theorem State.enterHalt_trace (w : HaltWait) : (s.enterHalt w).trace = s.trace := rfl
@[simp] theorem State.enterHalt_cfg (w : HaltWait) : (s.enterHalt w).cfg = s.cfg := rfl
@[simp] theorem State.enterHalt_prog (w : HaltWait) : (s.enterHalt w).prog = s.prog := rfl
@[simp] theorem State.enterHalt_sched (w : HaltWait) : (s.enterHalt w).sched = s.sched := rfl
@[simp] theorem State.enterHalt_freeTurns (w : HaltWait) : (s.enterHalt w).freeTurns = s.freeTurns := rfl

/-! `raise` -/

@[simp] theorem State.raise_cp (c : FaultCode) (w : Word) (r : Option RegNum) : (s.raise c w r).cp = s.cp := rfl
@[simp] theorem State.raise_mq (c : FaultCode) (w : Word) (r : Option RegNum) : (s.raise c w r).mq = s.mq := rfl
@[simp] theorem State.raise_I (c : FaultCode) (w : Word) (r : Option RegNum) : (s.raise c w r).I = s.I := rfl
@[simp] theorem State.raise_shadow (c : FaultCode) (w : Word) (r : Option RegNum) : (s.raise c w r).shadow = s.shadow := rfl
@[simp] theorem State.raise_halted (c : FaultCode) (w : Word) (r : Option RegNum) : (s.raise c w r).halted = s.halted := rfl
@[simp] theorem State.raise_hwait (c : FaultCode) (w : Word) (r : Option RegNum) : (s.raise c w r).hwait = s.hwait := rfl
@[simp] theorem State.raise_color (c : FaultCode) (w : Word) (r : Option RegNum) : (s.raise c w r).color = s.color := rfl
@[simp] theorem State.raise_ddata (c : FaultCode) (w : Word) (r : Option RegNum) : (s.raise c w r).ddata = s.ddata := rfl
@[simp] theorem State.raise_line (c : FaultCode) (w : Word) (r : Option RegNum) : (s.raise c w r).line = s.line := rfl
@[simp] theorem State.raise_latchok (c : FaultCode) (w : Word) (r : Option RegNum) : (s.raise c w r).latchok = s.latchok := rfl
@[simp] theorem State.raise_wdk (c : FaultCode) (w : Word) (r : Option RegNum) : (s.raise c w r).wdk = s.wdk := rfl
@[simp] theorem State.raise_wden (c : FaultCode) (w : Word) (r : Option RegNum) : (s.raise c w r).wden = s.wden := rfl
@[simp] theorem State.raise_wdfresh (c : FaultCode) (w : Word) (r : Option RegNum) : (s.raise c w r).wdfresh = s.wdfresh := rfl
@[simp] theorem State.raise_wdie (c : FaultCode) (w : Word) (r : Option RegNum) : (s.raise c w r).wdie = s.wdie := rfl
@[simp] theorem State.raise_wdif (c : FaultCode) (w : Word) (r : Option RegNum) : (s.raise c w r).wdif = s.wdif := rfl
@[simp] theorem State.raise_dspwr (c : FaultCode) (w : Word) (r : Option RegNum) : (s.raise c w r).dspwr = s.dspwr := rfl
@[simp] theorem State.raise_spwr (c : FaultCode) (w : Word) (r : Option RegNum) : (s.raise c w r).spwr = s.spwr := rfl
@[simp] theorem State.raise_didr (c : FaultCode) (w : Word) (r : Option RegNum) : (s.raise c w r).didr = s.didr := rfl
@[simp] theorem State.raise_aden (c : FaultCode) (w : Word) (r : Option RegNum) : (s.raise c w r).aden = s.aden := rfl
@[simp] theorem State.raise_adsc (c : FaultCode) (w : Word) (r : Option RegNum) : (s.raise c w r).adsc = s.adsc := rfl
@[simp] theorem State.raise_adie (c : FaultCode) (w : Word) (r : Option RegNum) : (s.raise c w r).adie = s.adie := rfl
@[simp] theorem State.raise_adif (c : FaultCode) (w : Word) (r : Option RegNum) : (s.raise c w r).adif = s.adif := rfl
@[simp] theorem State.raise_adres (c : FaultCode) (w : Word) (r : Option RegNum) : (s.raise c w r).adres = s.adres := rfl
@[simp] theorem State.raise_sample (c : FaultCode) (w : Word) (r : Option RegNum) : (s.raise c w r).sample = s.sample := rfl
@[simp] theorem State.raise_naprem (c : FaultCode) (w : Word) (r : Option RegNum) : (s.raise c w r).naprem = s.naprem := rfl
@[simp] theorem State.raise_resp (c : FaultCode) (w : Word) (r : Option RegNum) : (s.raise c w r).resp = s.resp := rfl
@[simp] theorem State.raise_fault (c : FaultCode) (w : Word) (r : Option RegNum) : (s.raise c w r).fault = some ⟨c, s.cp, w, r⟩ := rfl
@[simp] theorem State.raise_trace (c : FaultCode) (w : Word) (r : Option RegNum) : (s.raise c w r).trace = s.trace := rfl
@[simp] theorem State.raise_cfg (c : FaultCode) (w : Word) (r : Option RegNum) : (s.raise c w r).cfg = s.cfg := rfl
@[simp] theorem State.raise_prog (c : FaultCode) (w : Word) (r : Option RegNum) : (s.raise c w r).prog = s.prog := rfl
@[simp] theorem State.raise_sched (c : FaultCode) (w : Word) (r : Option RegNum) : (s.raise c w r).sched = s.sched := rfl
@[simp] theorem State.raise_freeTurns (c : FaultCode) (w : Word) (r : Option RegNum) : (s.raise c w r).freeTurns = s.freeTurns := rfl

/-! `arm` -/

@[simp] theorem State.arm_cp (k : Stage) : (s.arm k).cp = s.cp := rfl
@[simp] theorem State.arm_mq (k : Stage) : (s.arm k).mq = s.mq := rfl
@[simp] theorem State.arm_I (k : Stage) : (s.arm k).I = s.I := rfl
@[simp] theorem State.arm_shadow (k : Stage) : (s.arm k).shadow = s.shadow := rfl
@[simp] theorem State.arm_halted (k : Stage) : (s.arm k).halted = s.halted := rfl
@[simp] theorem State.arm_hwait (k : Stage) : (s.arm k).hwait = s.hwait := rfl
@[simp] theorem State.arm_color (k : Stage) : (s.arm k).color = s.color := rfl
@[simp] theorem State.arm_ddata (k : Stage) : (s.arm k).ddata = s.ddata := rfl
@[simp] theorem State.arm_line (k : Stage) : (s.arm k).line = s.line := rfl
@[simp] theorem State.arm_latchok (k : Stage) : (s.arm k).latchok = s.latchok := rfl
@[simp] theorem State.arm_wdk (k : Stage) : (s.arm k).wdk = k := rfl
@[simp] theorem State.arm_wden (k : Stage) : (s.arm k).wden = true := rfl
@[simp] theorem State.arm_wdfresh (k : Stage) : (s.arm k).wdfresh = true := rfl
@[simp] theorem State.arm_wdie (k : Stage) : (s.arm k).wdie = true := rfl
@[simp] theorem State.arm_wdif (k : Stage) : (s.arm k).wdif = false := rfl
@[simp] theorem State.arm_dspwr (k : Stage) : (s.arm k).dspwr = s.dspwr := rfl
@[simp] theorem State.arm_spwr (k : Stage) : (s.arm k).spwr = s.spwr := rfl
@[simp] theorem State.arm_didr (k : Stage) : (s.arm k).didr = s.didr := rfl
@[simp] theorem State.arm_aden (k : Stage) : (s.arm k).aden = s.aden := rfl
@[simp] theorem State.arm_adsc (k : Stage) : (s.arm k).adsc = s.adsc := rfl
@[simp] theorem State.arm_adie (k : Stage) : (s.arm k).adie = s.adie := rfl
@[simp] theorem State.arm_adif (k : Stage) : (s.arm k).adif = s.adif := rfl
@[simp] theorem State.arm_adres (k : Stage) : (s.arm k).adres = s.adres := rfl
@[simp] theorem State.arm_sample (k : Stage) : (s.arm k).sample = s.sample := rfl
@[simp] theorem State.arm_naprem (k : Stage) : (s.arm k).naprem = s.naprem := rfl
@[simp] theorem State.arm_resp (k : Stage) : (s.arm k).resp = s.resp := rfl
@[simp] theorem State.arm_fault (k : Stage) : (s.arm k).fault = s.fault := rfl
@[simp] theorem State.arm_trace (k : Stage) : (s.arm k).trace = s.trace := rfl
@[simp] theorem State.arm_cfg (k : Stage) : (s.arm k).cfg = s.cfg := rfl
@[simp] theorem State.arm_prog (k : Stage) : (s.arm k).prog = s.prog := rfl
@[simp] theorem State.arm_sched (k : Stage) : (s.arm k).sched = s.sched := rfl
@[simp] theorem State.arm_freeTurns (k : Stage) : (s.arm k).freeTurns = s.freeTurns := rfl

/-! `disarm` -/

@[simp] theorem State.disarm_cp : s.disarm.cp = s.cp := rfl
@[simp] theorem State.disarm_mq : s.disarm.mq = s.mq := rfl
@[simp] theorem State.disarm_I : s.disarm.I = s.I := rfl
@[simp] theorem State.disarm_shadow : s.disarm.shadow = s.shadow := rfl
@[simp] theorem State.disarm_halted : s.disarm.halted = s.halted := rfl
@[simp] theorem State.disarm_hwait : s.disarm.hwait = s.hwait := rfl
@[simp] theorem State.disarm_color : s.disarm.color = s.color := rfl
@[simp] theorem State.disarm_ddata : s.disarm.ddata = s.ddata := rfl
@[simp] theorem State.disarm_line : s.disarm.line = s.line := rfl
@[simp] theorem State.disarm_latchok : s.disarm.latchok = s.latchok := rfl
@[simp] theorem State.disarm_wdk : s.disarm.wdk = s.wdk := rfl
@[simp] theorem State.disarm_wden : s.disarm.wden = false := rfl
@[simp] theorem State.disarm_wdfresh : s.disarm.wdfresh = s.wdfresh := rfl
@[simp] theorem State.disarm_wdie : s.disarm.wdie = false := rfl
@[simp] theorem State.disarm_wdif : s.disarm.wdif = false := rfl
@[simp] theorem State.disarm_dspwr : s.disarm.dspwr = s.dspwr := rfl
@[simp] theorem State.disarm_spwr : s.disarm.spwr = s.spwr := rfl
@[simp] theorem State.disarm_didr : s.disarm.didr = s.didr := rfl
@[simp] theorem State.disarm_aden : s.disarm.aden = s.aden := rfl
@[simp] theorem State.disarm_adsc : s.disarm.adsc = s.adsc := rfl
@[simp] theorem State.disarm_adie : s.disarm.adie = s.adie := rfl
@[simp] theorem State.disarm_adif : s.disarm.adif = s.adif := rfl
@[simp] theorem State.disarm_adres : s.disarm.adres = s.adres := rfl
@[simp] theorem State.disarm_sample : s.disarm.sample = s.sample := rfl
@[simp] theorem State.disarm_naprem : s.disarm.naprem = s.naprem := rfl
@[simp] theorem State.disarm_resp : s.disarm.resp = s.resp := rfl
@[simp] theorem State.disarm_fault : s.disarm.fault = s.fault := rfl
@[simp] theorem State.disarm_trace : s.disarm.trace = s.trace := rfl
@[simp] theorem State.disarm_cfg : s.disarm.cfg = s.cfg := rfl
@[simp] theorem State.disarm_prog : s.disarm.prog = s.prog := rfl
@[simp] theorem State.disarm_sched : s.disarm.sched = s.sched := rfl
@[simp] theorem State.disarm_freeTurns : s.disarm.freeTurns = s.freeTurns := rfl

/-! `doSetRem` -/

@[simp] theorem State.doSetRem_cp (v : Ticks) : (s.doSetRem v).cp = s.cp := rfl
@[simp] theorem State.doSetRem_mq (v : Ticks) : (s.doSetRem v).mq = s.mq := rfl
@[simp] theorem State.doSetRem_I (v : Ticks) : (s.doSetRem v).I = s.I := rfl
@[simp] theorem State.doSetRem_shadow (v : Ticks) : (s.doSetRem v).shadow = false := rfl
@[simp] theorem State.doSetRem_halted (v : Ticks) : (s.doSetRem v).halted = s.halted := rfl
@[simp] theorem State.doSetRem_hwait (v : Ticks) : (s.doSetRem v).hwait = s.hwait := rfl
@[simp] theorem State.doSetRem_color (v : Ticks) : (s.doSetRem v).color = s.color := rfl
@[simp] theorem State.doSetRem_ddata (v : Ticks) : (s.doSetRem v).ddata = s.ddata := rfl
@[simp] theorem State.doSetRem_line (v : Ticks) : (s.doSetRem v).line = s.line := rfl
@[simp] theorem State.doSetRem_latchok (v : Ticks) : (s.doSetRem v).latchok = s.latchok := rfl
@[simp] theorem State.doSetRem_wdk (v : Ticks) : (s.doSetRem v).wdk = s.wdk := rfl
@[simp] theorem State.doSetRem_wden (v : Ticks) : (s.doSetRem v).wden = s.wden := rfl
@[simp] theorem State.doSetRem_wdfresh (v : Ticks) : (s.doSetRem v).wdfresh = s.wdfresh := rfl
@[simp] theorem State.doSetRem_wdie (v : Ticks) : (s.doSetRem v).wdie = s.wdie := rfl
@[simp] theorem State.doSetRem_wdif (v : Ticks) : (s.doSetRem v).wdif = s.wdif := rfl
@[simp] theorem State.doSetRem_dspwr (v : Ticks) : (s.doSetRem v).dspwr = s.dspwr := rfl
@[simp] theorem State.doSetRem_spwr (v : Ticks) : (s.doSetRem v).spwr = s.spwr := rfl
@[simp] theorem State.doSetRem_didr (v : Ticks) : (s.doSetRem v).didr = s.didr := rfl
@[simp] theorem State.doSetRem_aden (v : Ticks) : (s.doSetRem v).aden = s.aden := rfl
@[simp] theorem State.doSetRem_adsc (v : Ticks) : (s.doSetRem v).adsc = s.adsc := rfl
@[simp] theorem State.doSetRem_adie (v : Ticks) : (s.doSetRem v).adie = s.adie := rfl
@[simp] theorem State.doSetRem_adif (v : Ticks) : (s.doSetRem v).adif = s.adif := rfl
@[simp] theorem State.doSetRem_adres (v : Ticks) : (s.doSetRem v).adres = s.adres := rfl
@[simp] theorem State.doSetRem_sample (v : Ticks) : (s.doSetRem v).sample = s.sample := rfl
@[simp] theorem State.doSetRem_naprem (v : Ticks) : (s.doSetRem v).naprem = some v := rfl
@[simp] theorem State.doSetRem_resp (v : Ticks) : (s.doSetRem v).resp = s.resp := rfl
@[simp] theorem State.doSetRem_fault (v : Ticks) : (s.doSetRem v).fault = s.fault := rfl
@[simp] theorem State.doSetRem_trace (v : Ticks) : (s.doSetRem v).trace = s.trace := rfl
@[simp] theorem State.doSetRem_cfg (v : Ticks) : (s.doSetRem v).cfg = s.cfg := rfl
@[simp] theorem State.doSetRem_prog (v : Ticks) : (s.doSetRem v).prog = s.prog := rfl
@[simp] theorem State.doSetRem_sched (v : Ticks) : (s.doSetRem v).sched = s.sched := rfl
@[simp] theorem State.doSetRem_freeTurns (v : Ticks) : (s.doSetRem v).freeTurns = s.freeTurns := rfl

/-! `doSub` -/

@[simp] theorem State.doSub_cp (k : Stage) : (s.doSub k).cp = s.cp := rfl
@[simp] theorem State.doSub_mq (k : Stage) : (s.doSub k).mq = s.mq := rfl
@[simp] theorem State.doSub_I (k : Stage) : (s.doSub k).I = s.I := rfl
@[simp] theorem State.doSub_shadow (k : Stage) : (s.doSub k).shadow = false := rfl
@[simp] theorem State.doSub_halted (k : Stage) : (s.doSub k).halted = s.halted := rfl
@[simp] theorem State.doSub_hwait (k : Stage) : (s.doSub k).hwait = s.hwait := rfl
@[simp] theorem State.doSub_color (k : Stage) : (s.doSub k).color = s.color := rfl
@[simp] theorem State.doSub_ddata (k : Stage) : (s.doSub k).ddata = s.ddata := rfl
@[simp] theorem State.doSub_line (k : Stage) : (s.doSub k).line = s.line := rfl
@[simp] theorem State.doSub_latchok (k : Stage) : (s.doSub k).latchok = s.latchok := rfl
@[simp] theorem State.doSub_wdk (k : Stage) : (s.doSub k).wdk = s.wdk := rfl
@[simp] theorem State.doSub_wden (k : Stage) : (s.doSub k).wden = s.wden := rfl
@[simp] theorem State.doSub_wdfresh (k : Stage) : (s.doSub k).wdfresh = s.wdfresh := rfl
@[simp] theorem State.doSub_wdie (k : Stage) : (s.doSub k).wdie = s.wdie := rfl
@[simp] theorem State.doSub_wdif (k : Stage) : (s.doSub k).wdif = s.wdif := rfl
@[simp] theorem State.doSub_dspwr (k : Stage) : (s.doSub k).dspwr = s.dspwr := rfl
@[simp] theorem State.doSub_spwr (k : Stage) : (s.doSub k).spwr = s.spwr := rfl
@[simp] theorem State.doSub_didr (k : Stage) : (s.doSub k).didr = s.didr := rfl
@[simp] theorem State.doSub_aden (k : Stage) : (s.doSub k).aden = s.aden := rfl
@[simp] theorem State.doSub_adsc (k : Stage) : (s.doSub k).adsc = s.adsc := rfl
@[simp] theorem State.doSub_adie (k : Stage) : (s.doSub k).adie = s.adie := rfl
@[simp] theorem State.doSub_adif (k : Stage) : (s.doSub k).adif = s.adif := rfl
@[simp] theorem State.doSub_adres (k : Stage) : (s.doSub k).adres = s.adres := rfl
@[simp] theorem State.doSub_sample (k : Stage) : (s.doSub k).sample = s.sample := rfl
@[simp] theorem State.doSub_naprem (k : Stage) : (s.doSub k).naprem = s.naprem.map (· - stagePeriod k) := rfl
@[simp] theorem State.doSub_resp (k : Stage) : (s.doSub k).resp = s.resp := rfl
@[simp] theorem State.doSub_fault (k : Stage) : (s.doSub k).fault = s.fault := rfl
@[simp] theorem State.doSub_trace (k : Stage) : (s.doSub k).trace = s.trace ++ [.slept k] := rfl
@[simp] theorem State.doSub_cfg (k : Stage) : (s.doSub k).cfg = s.cfg := rfl
@[simp] theorem State.doSub_prog (k : Stage) : (s.doSub k).prog = s.prog := rfl
@[simp] theorem State.doSub_sched (k : Stage) : (s.doSub k).sched = s.sched := rfl
@[simp] theorem State.doSub_freeTurns (k : Stage) : (s.doSub k).freeTurns = s.freeTurns := rfl

/-! `doSensOn` -/

@[simp] theorem State.doSensOn_cp : s.doSensOn.cp = s.cp := rfl
@[simp] theorem State.doSensOn_mq : s.doSensOn.mq = s.mq := rfl
@[simp] theorem State.doSensOn_I : s.doSensOn.I = s.I := rfl
@[simp] theorem State.doSensOn_shadow : s.doSensOn.shadow = false := rfl
@[simp] theorem State.doSensOn_halted : s.doSensOn.halted = s.halted := rfl
@[simp] theorem State.doSensOn_hwait : s.doSensOn.hwait = s.hwait := rfl
@[simp] theorem State.doSensOn_color : s.doSensOn.color = s.color := rfl
@[simp] theorem State.doSensOn_ddata : s.doSensOn.ddata = s.ddata := rfl
@[simp] theorem State.doSensOn_line : s.doSensOn.line = s.line := rfl
@[simp] theorem State.doSensOn_latchok : s.doSensOn.latchok = s.latchok := rfl
@[simp] theorem State.doSensOn_wdk : s.doSensOn.wdk = s.wdk := rfl
@[simp] theorem State.doSensOn_wden : s.doSensOn.wden = s.wden := rfl
@[simp] theorem State.doSensOn_wdfresh : s.doSensOn.wdfresh = s.wdfresh := rfl
@[simp] theorem State.doSensOn_wdie : s.doSensOn.wdie = s.wdie := rfl
@[simp] theorem State.doSensOn_wdif : s.doSensOn.wdif = s.wdif := rfl
@[simp] theorem State.doSensOn_dspwr : s.doSensOn.dspwr = s.dspwr := rfl
@[simp] theorem State.doSensOn_spwr : s.doSensOn.spwr = true := rfl
@[simp] theorem State.doSensOn_didr : s.doSensOn.didr = s.didr := rfl
@[simp] theorem State.doSensOn_aden : s.doSensOn.aden = s.aden := rfl
@[simp] theorem State.doSensOn_adsc : s.doSensOn.adsc = s.adsc := rfl
@[simp] theorem State.doSensOn_adie : s.doSensOn.adie = s.adie := rfl
@[simp] theorem State.doSensOn_adif : s.doSensOn.adif = s.adif := rfl
@[simp] theorem State.doSensOn_adres : s.doSensOn.adres = s.adres := rfl
@[simp] theorem State.doSensOn_sample : s.doSensOn.sample = s.sample := rfl
@[simp] theorem State.doSensOn_naprem : s.doSensOn.naprem = s.naprem := rfl
@[simp] theorem State.doSensOn_resp : s.doSensOn.resp = s.resp := rfl
@[simp] theorem State.doSensOn_fault : s.doSensOn.fault = s.fault := rfl
@[simp] theorem State.doSensOn_trace : s.doSensOn.trace = s.trace ++ [.sense true] := rfl
@[simp] theorem State.doSensOn_cfg : s.doSensOn.cfg = s.cfg := rfl
@[simp] theorem State.doSensOn_prog : s.doSensOn.prog = s.prog := rfl
@[simp] theorem State.doSensOn_sched : s.doSensOn.sched = s.sched := rfl
@[simp] theorem State.doSensOn_freeTurns : s.doSensOn.freeTurns = s.freeTurns := rfl

/-! `doAdcStart` -/

@[simp] theorem State.doAdcStart_cp : s.doAdcStart.cp = s.cp := rfl
@[simp] theorem State.doAdcStart_mq : s.doAdcStart.mq = s.mq := rfl
@[simp] theorem State.doAdcStart_I : s.doAdcStart.I = s.I := rfl
@[simp] theorem State.doAdcStart_shadow : s.doAdcStart.shadow = false := rfl
@[simp] theorem State.doAdcStart_halted : s.doAdcStart.halted = s.halted := rfl
@[simp] theorem State.doAdcStart_hwait : s.doAdcStart.hwait = s.hwait := rfl
@[simp] theorem State.doAdcStart_color : s.doAdcStart.color = s.color := rfl
@[simp] theorem State.doAdcStart_ddata : s.doAdcStart.ddata = s.ddata := rfl
@[simp] theorem State.doAdcStart_line : s.doAdcStart.line = s.line := rfl
@[simp] theorem State.doAdcStart_latchok : s.doAdcStart.latchok = s.latchok := rfl
@[simp] theorem State.doAdcStart_wdk : s.doAdcStart.wdk = s.wdk := rfl
@[simp] theorem State.doAdcStart_wden : s.doAdcStart.wden = s.wden := rfl
@[simp] theorem State.doAdcStart_wdfresh : s.doAdcStart.wdfresh = s.wdfresh := rfl
@[simp] theorem State.doAdcStart_wdie : s.doAdcStart.wdie = s.wdie := rfl
@[simp] theorem State.doAdcStart_wdif : s.doAdcStart.wdif = s.wdif := rfl
@[simp] theorem State.doAdcStart_dspwr : s.doAdcStart.dspwr = s.dspwr := rfl
@[simp] theorem State.doAdcStart_spwr : s.doAdcStart.spwr = s.spwr := rfl
@[simp] theorem State.doAdcStart_didr : s.doAdcStart.didr = s.didr := rfl
@[simp] theorem State.doAdcStart_aden : s.doAdcStart.aden = true := rfl
@[simp] theorem State.doAdcStart_adsc : s.doAdcStart.adsc = true := rfl
@[simp] theorem State.doAdcStart_adie : s.doAdcStart.adie = true := rfl
@[simp] theorem State.doAdcStart_adif : s.doAdcStart.adif = false := rfl
@[simp] theorem State.doAdcStart_adres : s.doAdcStart.adres = s.adres := rfl
@[simp] theorem State.doAdcStart_sample : s.doAdcStart.sample = s.sample := rfl
@[simp] theorem State.doAdcStart_naprem : s.doAdcStart.naprem = s.naprem := rfl
@[simp] theorem State.doAdcStart_resp : s.doAdcStart.resp = s.resp := rfl
@[simp] theorem State.doAdcStart_fault : s.doAdcStart.fault = s.fault := rfl
@[simp] theorem State.doAdcStart_trace : s.doAdcStart.trace = s.trace := rfl
@[simp] theorem State.doAdcStart_cfg : s.doAdcStart.cfg = s.cfg := rfl
@[simp] theorem State.doAdcStart_prog : s.doAdcStart.prog = s.prog := rfl
@[simp] theorem State.doAdcStart_sched : s.doAdcStart.sched = s.sched := rfl
@[simp] theorem State.doAdcStart_freeTurns : s.doAdcStart.freeTurns = s.freeTurns := rfl

/-! `doRead` -/

@[simp] theorem State.doRead_cp : s.doRead.cp = s.cp := rfl
@[simp] theorem State.doRead_mq : s.doRead.mq = s.mq := rfl
@[simp] theorem State.doRead_I : s.doRead.I = s.I := rfl
@[simp] theorem State.doRead_shadow : s.doRead.shadow = false := rfl
@[simp] theorem State.doRead_halted : s.doRead.halted = s.halted := rfl
@[simp] theorem State.doRead_hwait : s.doRead.hwait = s.hwait := rfl
@[simp] theorem State.doRead_color : s.doRead.color = s.color := rfl
@[simp] theorem State.doRead_ddata : s.doRead.ddata = s.ddata := rfl
@[simp] theorem State.doRead_line : s.doRead.line = s.line := rfl
@[simp] theorem State.doRead_latchok : s.doRead.latchok = s.latchok := rfl
@[simp] theorem State.doRead_wdk : s.doRead.wdk = s.wdk := rfl
@[simp] theorem State.doRead_wden : s.doRead.wden = s.wden := rfl
@[simp] theorem State.doRead_wdfresh : s.doRead.wdfresh = s.wdfresh := rfl
@[simp] theorem State.doRead_wdie : s.doRead.wdie = s.wdie := rfl
@[simp] theorem State.doRead_wdif : s.doRead.wdif = s.wdif := rfl
@[simp] theorem State.doRead_dspwr : s.doRead.dspwr = s.dspwr := rfl
@[simp] theorem State.doRead_spwr : s.doRead.spwr = s.spwr := rfl
@[simp] theorem State.doRead_didr : s.doRead.didr = s.didr := rfl
@[simp] theorem State.doRead_aden : s.doRead.aden = s.aden := rfl
@[simp] theorem State.doRead_adsc : s.doRead.adsc = s.adsc := rfl
@[simp] theorem State.doRead_adie : s.doRead.adie = s.adie := rfl
@[simp] theorem State.doRead_adif : s.doRead.adif = s.adif := rfl
@[simp] theorem State.doRead_adres : s.doRead.adres = s.adres := rfl
@[simp] theorem State.doRead_sample : s.doRead.sample = s.adres := rfl
@[simp] theorem State.doRead_naprem : s.doRead.naprem = s.naprem := rfl
@[simp] theorem State.doRead_resp : s.doRead.resp = s.resp := rfl
@[simp] theorem State.doRead_fault : s.doRead.fault = s.fault := rfl
@[simp] theorem State.doRead_trace : s.doRead.trace = s.trace ++ [.sampled s.adres] := rfl
@[simp] theorem State.doRead_cfg : s.doRead.cfg = s.cfg := rfl
@[simp] theorem State.doRead_prog : s.doRead.prog = s.prog := rfl
@[simp] theorem State.doRead_sched : s.doRead.sched = s.sched := rfl
@[simp] theorem State.doRead_freeTurns : s.doRead.freeTurns = s.freeTurns := rfl

/-! `doSensOff` -/

@[simp] theorem State.doSensOff_cp : s.doSensOff.cp = s.cp := rfl
@[simp] theorem State.doSensOff_mq : s.doSensOff.mq = s.mq := rfl
@[simp] theorem State.doSensOff_I : s.doSensOff.I = s.I := rfl
@[simp] theorem State.doSensOff_shadow : s.doSensOff.shadow = false := rfl
@[simp] theorem State.doSensOff_halted : s.doSensOff.halted = s.halted := rfl
@[simp] theorem State.doSensOff_hwait : s.doSensOff.hwait = s.hwait := rfl
@[simp] theorem State.doSensOff_color : s.doSensOff.color = s.color := rfl
@[simp] theorem State.doSensOff_ddata : s.doSensOff.ddata = s.ddata := rfl
@[simp] theorem State.doSensOff_line : s.doSensOff.line = s.line := rfl
@[simp] theorem State.doSensOff_latchok : s.doSensOff.latchok = s.latchok := rfl
@[simp] theorem State.doSensOff_wdk : s.doSensOff.wdk = s.wdk := rfl
@[simp] theorem State.doSensOff_wden : s.doSensOff.wden = s.wden := rfl
@[simp] theorem State.doSensOff_wdfresh : s.doSensOff.wdfresh = s.wdfresh := rfl
@[simp] theorem State.doSensOff_wdie : s.doSensOff.wdie = s.wdie := rfl
@[simp] theorem State.doSensOff_wdif : s.doSensOff.wdif = s.wdif := rfl
@[simp] theorem State.doSensOff_dspwr : s.doSensOff.dspwr = s.dspwr := rfl
@[simp] theorem State.doSensOff_spwr : s.doSensOff.spwr = false := rfl
@[simp] theorem State.doSensOff_didr : s.doSensOff.didr = s.didr := rfl
@[simp] theorem State.doSensOff_aden : s.doSensOff.aden = false := rfl
@[simp] theorem State.doSensOff_adsc : s.doSensOff.adsc = false := rfl
@[simp] theorem State.doSensOff_adie : s.doSensOff.adie = false := rfl
@[simp] theorem State.doSensOff_adif : s.doSensOff.adif = false := rfl
@[simp] theorem State.doSensOff_adres : s.doSensOff.adres = s.adres := rfl
@[simp] theorem State.doSensOff_sample : s.doSensOff.sample = s.sample := rfl
@[simp] theorem State.doSensOff_naprem : s.doSensOff.naprem = s.naprem := rfl
@[simp] theorem State.doSensOff_resp : s.doSensOff.resp = s.resp := rfl
@[simp] theorem State.doSensOff_fault : s.doSensOff.fault = s.fault := rfl
@[simp] theorem State.doSensOff_trace : s.doSensOff.trace = s.trace ++ [.sense false] := rfl
@[simp] theorem State.doSensOff_cfg : s.doSensOff.cfg = s.cfg := rfl
@[simp] theorem State.doSensOff_prog : s.doSensOff.prog = s.prog := rfl
@[simp] theorem State.doSensOff_sched : s.doSensOff.sched = s.sched := rfl
@[simp] theorem State.doSensOff_freeTurns : s.doSensOff.freeTurns = s.freeTurns := rfl

/-! `expire` -/

@[simp] theorem State.expire_cp : s.expire.cp = s.cp := rfl
@[simp] theorem State.expire_mq : s.expire.mq = s.mq := rfl
@[simp] theorem State.expire_I : s.expire.I = s.I := rfl
@[simp] theorem State.expire_shadow : s.expire.shadow = s.shadow := rfl
@[simp] theorem State.expire_halted : s.expire.halted = s.halted := rfl
@[simp] theorem State.expire_hwait : s.expire.hwait = s.hwait := rfl
@[simp] theorem State.expire_color : s.expire.color = s.color := rfl
@[simp] theorem State.expire_ddata : s.expire.ddata = s.ddata := rfl
@[simp] theorem State.expire_line : s.expire.line = s.line := rfl
@[simp] theorem State.expire_latchok : s.expire.latchok = (s.latchok || s.wdfresh) := rfl
@[simp] theorem State.expire_wdk : s.expire.wdk = s.wdk := rfl
@[simp] theorem State.expire_wden : s.expire.wden = s.wden := rfl
@[simp] theorem State.expire_wdfresh : s.expire.wdfresh = s.wdfresh := rfl
@[simp] theorem State.expire_wdie : s.expire.wdie = s.wdie := rfl
@[simp] theorem State.expire_wdif : s.expire.wdif = true := rfl
@[simp] theorem State.expire_dspwr : s.expire.dspwr = s.dspwr := rfl
@[simp] theorem State.expire_spwr : s.expire.spwr = s.spwr := rfl
@[simp] theorem State.expire_didr : s.expire.didr = s.didr := rfl
@[simp] theorem State.expire_aden : s.expire.aden = s.aden := rfl
@[simp] theorem State.expire_adsc : s.expire.adsc = s.adsc := rfl
@[simp] theorem State.expire_adie : s.expire.adie = s.adie := rfl
@[simp] theorem State.expire_adif : s.expire.adif = s.adif := rfl
@[simp] theorem State.expire_adres : s.expire.adres = s.adres := rfl
@[simp] theorem State.expire_sample : s.expire.sample = s.sample := rfl
@[simp] theorem State.expire_naprem : s.expire.naprem = s.naprem := rfl
@[simp] theorem State.expire_resp : s.expire.resp = s.resp := rfl
@[simp] theorem State.expire_fault : s.expire.fault = s.fault := rfl
@[simp] theorem State.expire_trace : s.expire.trace = s.trace ++ [.expire s.wdk] := rfl
@[simp] theorem State.expire_cfg : s.expire.cfg = s.cfg := rfl
@[simp] theorem State.expire_prog : s.expire.prog = s.prog := rfl
@[simp] theorem State.expire_sched : s.expire.sched = s.sched := rfl
@[simp] theorem State.expire_freeTurns : s.expire.freeTurns = s.freeTurns := rfl

/-! `convert` -/

@[simp] theorem State.convert_cp (v : Byte) : (s.convert v).cp = s.cp := rfl
@[simp] theorem State.convert_mq (v : Byte) : (s.convert v).mq = s.mq := rfl
@[simp] theorem State.convert_I (v : Byte) : (s.convert v).I = s.I := rfl
@[simp] theorem State.convert_shadow (v : Byte) : (s.convert v).shadow = s.shadow := rfl
@[simp] theorem State.convert_halted (v : Byte) : (s.convert v).halted = s.halted := rfl
@[simp] theorem State.convert_hwait (v : Byte) : (s.convert v).hwait = s.hwait := rfl
@[simp] theorem State.convert_color (v : Byte) : (s.convert v).color = s.color := rfl
@[simp] theorem State.convert_ddata (v : Byte) : (s.convert v).ddata = s.ddata := rfl
@[simp] theorem State.convert_line (v : Byte) : (s.convert v).line = s.line := rfl
@[simp] theorem State.convert_latchok (v : Byte) : (s.convert v).latchok = s.latchok := rfl
@[simp] theorem State.convert_wdk (v : Byte) : (s.convert v).wdk = s.wdk := rfl
@[simp] theorem State.convert_wden (v : Byte) : (s.convert v).wden = s.wden := rfl
@[simp] theorem State.convert_wdfresh (v : Byte) : (s.convert v).wdfresh = s.wdfresh := rfl
@[simp] theorem State.convert_wdie (v : Byte) : (s.convert v).wdie = s.wdie := rfl
@[simp] theorem State.convert_wdif (v : Byte) : (s.convert v).wdif = s.wdif := rfl
@[simp] theorem State.convert_dspwr (v : Byte) : (s.convert v).dspwr = s.dspwr := rfl
@[simp] theorem State.convert_spwr (v : Byte) : (s.convert v).spwr = s.spwr := rfl
@[simp] theorem State.convert_didr (v : Byte) : (s.convert v).didr = s.didr := rfl
@[simp] theorem State.convert_aden (v : Byte) : (s.convert v).aden = s.aden := rfl
@[simp] theorem State.convert_adsc (v : Byte) : (s.convert v).adsc = false := rfl
@[simp] theorem State.convert_adie (v : Byte) : (s.convert v).adie = s.adie := rfl
@[simp] theorem State.convert_adif (v : Byte) : (s.convert v).adif = true := rfl
@[simp] theorem State.convert_adres (v : Byte) : (s.convert v).adres = some v := rfl
@[simp] theorem State.convert_sample (v : Byte) : (s.convert v).sample = s.sample := rfl
@[simp] theorem State.convert_naprem (v : Byte) : (s.convert v).naprem = s.naprem := rfl
@[simp] theorem State.convert_resp (v : Byte) : (s.convert v).resp = s.resp := rfl
@[simp] theorem State.convert_fault (v : Byte) : (s.convert v).fault = s.fault := rfl
@[simp] theorem State.convert_trace (v : Byte) : (s.convert v).trace = s.trace := rfl
@[simp] theorem State.convert_cfg (v : Byte) : (s.convert v).cfg = s.cfg := rfl
@[simp] theorem State.convert_prog (v : Byte) : (s.convert v).prog = s.prog := rfl
@[simp] theorem State.convert_sched (v : Byte) : (s.convert v).sched = s.sched := rfl
@[simp] theorem State.convert_freeTurns (v : Byte) : (s.convert v).freeTurns = s.freeTurns := rfl

/-! Composite updates -/

@[simp] theorem State.complete_eq : s.complete = (s.setShadow false).advance := rfl
@[simp] theorem State.enableInterrupts_eq : s.enableInterrupts = (s.setI true).setShadow true := rfl
@[simp] theorem State.disableInterrupts_eq : s.disableInterrupts = (s.setI false).setShadow false := rfl
@[simp] theorem State.enterService_eq : s.enterService = s.setI false := rfl
@[simp] theorem State.returnFromService_eq : s.returnFromService = (s.setI true).setShadow false := rfl
@[simp] theorem State.doArm_eq (k : Stage) : s.doArm k = (s.arm k).setShadow false := rfl
@[simp] theorem State.doDisarm_eq : s.doDisarm = s.disarm.setShadow false := rfl

/-! `passTurn` leaves everything but the schedule -/

@[simp] theorem State.passTurn_cp : s.passTurn.cp = s.cp := by unfold State.passTurn; split <;> rfl
@[simp] theorem State.passTurn_mq : s.passTurn.mq = s.mq := by unfold State.passTurn; split <;> rfl
@[simp] theorem State.passTurn_I : s.passTurn.I = s.I := by unfold State.passTurn; split <;> rfl
@[simp] theorem State.passTurn_shadow : s.passTurn.shadow = s.shadow := by unfold State.passTurn; split <;> rfl
@[simp] theorem State.passTurn_halted : s.passTurn.halted = s.halted := by unfold State.passTurn; split <;> rfl
@[simp] theorem State.passTurn_hwait : s.passTurn.hwait = s.hwait := by unfold State.passTurn; split <;> rfl
@[simp] theorem State.passTurn_color : s.passTurn.color = s.color := by unfold State.passTurn; split <;> rfl
@[simp] theorem State.passTurn_ddata : s.passTurn.ddata = s.ddata := by unfold State.passTurn; split <;> rfl
@[simp] theorem State.passTurn_line : s.passTurn.line = s.line := by unfold State.passTurn; split <;> rfl
@[simp] theorem State.passTurn_latchok : s.passTurn.latchok = s.latchok := by unfold State.passTurn; split <;> rfl
@[simp] theorem State.passTurn_wdk : s.passTurn.wdk = s.wdk := by unfold State.passTurn; split <;> rfl
@[simp] theorem State.passTurn_wden : s.passTurn.wden = s.wden := by unfold State.passTurn; split <;> rfl
@[simp] theorem State.passTurn_wdfresh : s.passTurn.wdfresh = s.wdfresh := by unfold State.passTurn; split <;> rfl
@[simp] theorem State.passTurn_wdie : s.passTurn.wdie = s.wdie := by unfold State.passTurn; split <;> rfl
@[simp] theorem State.passTurn_wdif : s.passTurn.wdif = s.wdif := by unfold State.passTurn; split <;> rfl
@[simp] theorem State.passTurn_dspwr : s.passTurn.dspwr = s.dspwr := by unfold State.passTurn; split <;> rfl
@[simp] theorem State.passTurn_spwr : s.passTurn.spwr = s.spwr := by unfold State.passTurn; split <;> rfl
@[simp] theorem State.passTurn_didr : s.passTurn.didr = s.didr := by unfold State.passTurn; split <;> rfl
@[simp] theorem State.passTurn_aden : s.passTurn.aden = s.aden := by unfold State.passTurn; split <;> rfl
@[simp] theorem State.passTurn_adsc : s.passTurn.adsc = s.adsc := by unfold State.passTurn; split <;> rfl
@[simp] theorem State.passTurn_adie : s.passTurn.adie = s.adie := by unfold State.passTurn; split <;> rfl
@[simp] theorem State.passTurn_adif : s.passTurn.adif = s.adif := by unfold State.passTurn; split <;> rfl
@[simp] theorem State.passTurn_adres : s.passTurn.adres = s.adres := by unfold State.passTurn; split <;> rfl
@[simp] theorem State.passTurn_sample : s.passTurn.sample = s.sample := by unfold State.passTurn; split <;> rfl
@[simp] theorem State.passTurn_naprem : s.passTurn.naprem = s.naprem := by unfold State.passTurn; split <;> rfl
@[simp] theorem State.passTurn_resp : s.passTurn.resp = s.resp := by unfold State.passTurn; split <;> rfl
@[simp] theorem State.passTurn_fault : s.passTurn.fault = s.fault := by unfold State.passTurn; split <;> rfl
@[simp] theorem State.passTurn_trace : s.passTurn.trace = s.trace := by unfold State.passTurn; split <;> rfl
@[simp] theorem State.passTurn_cfg : s.passTurn.cfg = s.cfg := by unfold State.passTurn; split <;> rfl
@[simp] theorem State.passTurn_prog : s.passTurn.prog = s.prog := by unfold State.passTurn; split <;> rfl

theorem State.turn_cons (t : Turn) (rest : List Turn) (h : s.sched = t :: rest) : s.turn = t := by
  simp [State.turn, h]

theorem State.passTurn_cons (t : Turn) (rest : List Turn) (h : s.sched = t :: rest) :
    s.passTurn = { s with sched := rest } := by
  simp [State.passTurn, h]

/-! The flag computations read only the fields they name -/

@[simp] theorem State.passTurn_pend (src : Source) : s.passTurn.pend src = s.pend src := by
  cases src <;> simp [State.pend]

@[simp] theorem State.passTurn_serviceDue : s.passTurn.serviceDue = s.serviceDue := by
  simp [State.serviceDue]

@[simp] theorem State.passTurn_ended : s.passTurn.ended = s.ended := by
  simp [State.ended]

theorem State.serviceDue_iff : s.serviceDue = true ↔
    s.fault = none ∧ s.I = true ∧ s.shadow = false ∧ (s.pend .wdt = true ∨ s.pend .adc = true) := by
  simp [State.serviceDue, and_assoc]

theorem State.serviceDue_of_masked (h : s.I = false) : s.serviceDue = false := by
  simp [State.serviceDue, h]

theorem State.serviceDue_of_shadow (h : s.shadow = true) : s.serviceDue = false := by
  simp [State.serviceDue, h]

/-- A due service takes a pending source. -/
theorem State.pend_highestPending (h : s.serviceDue = true) : s.pend s.highestPending = true := by
  have := (s.serviceDue_iff.1 h).2.2.2
  unfold State.highestPending
  split <;> simp_all

/-! `clearFlag` -/

@[simp] theorem State.clearFlag_wdt : s.clearFlag .wdt = { s with wdif := false } := rfl
@[simp] theorem State.clearFlag_adc : s.clearFlag .adc = { s with adif := false } := rfl

end Sys2Proof.Machine
end

