-- ==== Sys2Proof/Laws/Transmit.lean ====
section
/-! SUPPORT. What sending a frame does, said once: the events of a bit, of a list of bits, and the whole effect
of `State.transmit` (R98 to R104). -/
namespace Sys2Proof.Machine

/-- The two segments of one bit (R98). -/
def bitEvents (p : Params) (b : Bool) : List Event :=
  [.seg true (highCycles p b), .seg false (lowCycles p b)]

theorem State.sendBit_eq (s : State) (b : Bool) :
    s.sendBit b = { s with line := false, trace := s.trace ++ bitEvents s.cfg b } := by
  simp [State.sendBit, State.emit, bitEvents]

/-- Sending bits appends their segments and leaves the line low (R102). -/
theorem State.sendBits_eq (bs : List Bool) (s : State) :
    bs.foldl State.sendBit s =
      { s with line := s.line && bs.isEmpty, trace := s.trace ++ bs.flatMap (bitEvents s.cfg) } := by
  induction bs generalizing s with
  | nil => simp
  | cons b bs ih => rw [List.foldl_cons, ih, State.sendBit_eq]; simp

theorem frameBits_length (c0 c1 c2 : Byte) : (frameBits c0 c1 c2).length = 24 := by
  simp [frameBits]

/-- The whole effect of TX past its tests (R104). -/
theorem State.transmit_eq (s : State) (c0 c1 c2 : Byte) :
    s.transmit c0 c1 c2 =
      { s with
        line := false, latchok := false, wdfresh := false, shadow := false, cp := s.cp + 1
        trace := s.trace ++ (frameBits c0 c1 c2).flatMap (bitEvents s.cfg)
          ++ [.frame c0 c1 c2 s.latchok] } := by
  have h : (frameBits c0 c1 c2).isEmpty = false := by
    rw [List.isEmpty_eq_false_iff, ← List.length_pos_iff, frameBits_length]; decide
  unfold State.transmit
  rw [State.sendBits_eq]
  simp [h, State.emit, State.setI, State.setShadow, State.advance]

end Sys2Proof.Machine
end

