-- ==== Sys2Proof/Laws/Step.lean ====
section
/-! SUPPORT. What a step can do, said once: the effect of a service (R178), of a reset (R200), and the
inversion of `step` into the moves of the four agents (R70, R151). Later proofs cite these and do not unfold
the step. -/
namespace Sys2Proof.Machine

/-- The whole effect of a service of the countdown-expired source (R178). -/
theorem State.service_wdt (s : State) :
    s.service .wdt =
      { s with
        wdif := false, I := true, shadow := false, trace := s.trace ++ [.serviced .wdt]
        halted := s.halted && !s.hwait.endedBy .wdt } := by
  cases h : s.halted <;> cases h' : s.hwait <;>
    simp [State.service, State.handle, State.emit, State.setI, State.setShadow, HaltWait.endedBy, h, h']

/-- The whole effect of a service of the conversion-complete source (R178). -/
theorem State.service_adc (s : State) :
    s.service .adc =
      { s with
        adif := false, I := true, shadow := false, trace := s.trace ++ [.serviced .adc]
        halted := s.halted && !s.hwait.endedBy .adc } := by
  cases h : s.halted <;> cases h' : s.hwait <;>
    simp [State.service, State.handle, State.emit, State.setI, State.setShadow, HaltWait.endedBy, h, h']

/-- The whole effect of a reset (R200). -/
theorem State.resetStep_eq (s : State) :
    s.resetStep =
      { State.reset with
        fault := s.fault
        trace := s.trace ++ .reset :: (if s.ddata then [.line .z] else [])
        cfg := s.cfg, prog := s.prog, sched := s.sched, freeTurns := s.freeTurns } := by
  cases h : s.ddata <;> simp [State.resetStep, State.toResetValues, State.emit, h]

/-- The moves of the agents, s being the state whose turn has been passed on: what a step that answers a next
state can have done. -/
inductive Move (t : Turn) (s : State) : State → Prop where
  /-- reset (R200). -/
  | reset (ht : t = .reset) : Move t s s.resetStep
  /-- expire (R119). -/
  | expire (ht : t = .expire) (hf : s.fault = none) (he : s.expireEnabled = true) : Move t s s.expire
  /-- convert (R141). -/
  | convert (v : Byte) (ht : t = .convert v) (hf : s.fault = none) (he : s.convertEnabled = true) :
      Move t s (s.convert v)
  /-- An interrupt service (R176, R178). -/
  | service (ht : t = .engine) (hd : s.serviceDue = true) : Move t s (s.service s.highestPending)
  /-- A micro-operation (R36). -/
  | perform (m : MicroOp) (rest : List MicroOp) (ht : t = .engine) (hf : s.fault = none)
      (hd : s.serviceDue = false) (hh : s.halted = false) (hq : s.mq = m :: rest) :
      Move t s ((s.setQueue rest).perform m)
  /-- The fetch of an illegal word (R87). -/
  | illegal (w : Word) (e : DecodeError) (ht : t = .engine) (hf : s.fault = none)
      (hd : s.serviceDue = false) (hh : s.halted = false) (hq : s.mq = []) (hw : s.prog[s.cp]? = some w)
      (hi : decode s.cfg.kmax w = .error e) : Move t s (s.raise .illegal w none)
  /-- The fetch step of a command (R151). -/
  | fetch (w : Word) (i : Instr) (s' : State) (ht : t = .engine) (hf : s.fault = none)
      (hd : s.serviceDue = false) (hh : s.halted = false) (hq : s.mq = []) (hw : s.prog[s.cp]? = some w)
      (hi : decode s.cfg.kmax w = .ok i) (he : exec i s = .next s') : Move t s s'
  /-- The agent has no step and its turn passes (log 5). -/
  | pass (ht : t ≠ .reset) (hf : s.fault = none) : Move t s s

theorem engineTurn_move (s s' : State) (h : engineTurn s = .next s') : Move .engine s s' := by
  unfold engineTurn at h
  split at h
  · cases h
  · rename_i hf
    split at h
    · rename_i hd; cases h; exact .service rfl hd
    · rename_i hd
      have hd : s.serviceDue = false := by simpa using hd
      split at h
      · cases h; exact .pass (by decide) hf
      · rename_i hh
        have hh : s.halted = false := by simpa using hh
        split at h
        · rename_i m rest hq; cases h; exact .perform m rest rfl hf hd hh hq
        · rename_i hq
          split at h
          · rename_i w hw
            unfold fetchStep at h
            split at h
            · rename_i i hi; exact .fetch w i s' rfl hf hd hh hq hw hi h
            · rename_i e hi; cases h; exact .illegal w e rfl hf hd hh hq hw hi
          · cases h; exact .pass (by decide) hf

/-- Every step that answers a next state is one of the moves, of the agent whose turn it is. -/
theorem step_move (s s' : State) (h : step s = .next s') : Move s.turn s.passTurn s' := by
  unfold step agentStep at h
  split at h
  · rename_i ht; rw [ht]; exact engineTurn_move _ _ h
  · rename_i ht
    unfold countdownTurn at h
    split at h
    · cases h
    · rename_i hf
      cases h
      split
      · exact .expire ht hf ‹_›
      · exact .pass (by simp [ht]) hf
  · rename_i v ht
    unfold converterTurn at h
    split at h
    · cases h
    · rename_i hf
      cases h
      split
      · exact .convert v ht hf ‹_›
      · exact .pass (by simp [ht]) hf
  · rename_i ht; cases h; exact .reset ht

/-- No meaning stops the machine: the fetch step of every command answers a next state, a model fault being
written into `FAULT` (R170). -/
theorem exec_answers_next (i : Instr) (s : State) : ∃ s', exec i s = .next s' := by
  cases i <;>
    simp only [exec, execNop, execInit, execSetc, execSetrgb, execTx, execCli, execSei, execHalt, execWdcfg,
      execWdstop, execNap, execSample, execRdreg] <;>
    repeat' first | exact ⟨_, rfl⟩ | split

end Sys2Proof.Machine
end

