-- ==== Sys2Proof/Laws/Run.lean ====
section
/-! SUPPORT. Runs of several steps (R70, R207): how a run begins, and how two runs join. -/
namespace Sys2Proof.Machine

theorem run_zero (s : State) : Host.Core.run Sys2Proof.core 0 s = .next s := rfl

/-- A run whose first step answers a next state goes on from it. -/
theorem run_succ (n : Nat) (s u : State) (h : step s = .next u) :
    Host.Core.run Sys2Proof.core (n + 1) s = Host.Core.run Sys2Proof.core n u := by
  have h' : Sys2Proof.core.step s = .next u := h
  simp only [Host.Core.run, h']

/-- A run that answers a next state began with a step that did. -/
theorem run_succ_inv (n : Nat) (s v : State) (h : Host.Core.run Sys2Proof.core (n + 1) s = .next v) :
    ∃ u, step s = .next u ∧ Host.Core.run Sys2Proof.core n u = .next v := by
  cases hs : step s with
  | next u => exact ⟨u, rfl, by rwa [run_succ n s u hs] at h⟩
  | fault r =>
    have hs' : Sys2Proof.core.step s = .fault r := hs
    simp [Host.Core.run, hs'] at h
  | refused r =>
    have hs' : Sys2Proof.core.step s = .refused r := hs
    simp [Host.Core.run, hs'] at h

/-- A run of `a + b` steps is a run of `a` steps and then one of `b`. -/
theorem run_add (a b : Nat) (s u : State) (h : Host.Core.run Sys2Proof.core a s = .next u) :
    Host.Core.run Sys2Proof.core (a + b) s = Host.Core.run Sys2Proof.core b u := by
  induction a generalizing s with
  | zero => cases h; rw [Nat.zero_add]
  | succ a ih =>
    obtain ⟨v, hv, hr⟩ := run_succ_inv a s u h
    rw [show a + 1 + b = a + b + 1 by omega, run_succ _ _ _ hv, ih v hr]

/-- What holds at the start of a run and is kept by every step holds at its end. -/
theorem run_keeps (P : State → Prop) (hstep : ∀ s u, P s → step s = .next u → P u) (n : Nat) (s u : State)
    (hs : P s) (h : Host.Core.run Sys2Proof.core n s = .next u) : P u := by
  induction n generalizing s with
  | zero => cases h; exact hs
  | succ n ih =>
    obtain ⟨v, hv, hr⟩ := run_succ_inv n s u h
    exact ih v (hstep s v hs hv) hr

end Sys2Proof.Machine
end

