-- ==== Sys2Proof/Tests/Slice0.lean ====
section
/-! SUPPORT. The model's own tests, by named theorems. Expected results come from the vectors of
95_test_vectors.md (named T, W, N, S, H, G, F, X, L as there) and from the rules. At the end, for every
statement with hypotheses, a concrete state and operands that meet them together. -/
namespace Sys2Proof.Tests

open Sys2Proof Sys2Proof.Machine

/-! ### Helpers -/

/-- The state after the meaning of a command. -/
def after (i : Instr) (s : State) : Option State :=
  match exec i s with
  | .next u => some u
  | .fault _ => none
  | .refused _ => none

/-- The state after one step. -/
def afterStep (s : State) : Option State :=
  match step s with
  | .next u => some u
  | .fault _ => none
  | .refused _ => none

/-- After INIT, with a program, `CP` at its start. -/
def inited (prog : List Word) : State :=
  { State.reset with ddata := true, dspwr := true, didr := true, prog := prog }

/-- After INIT and a SETRGB. -/
def colored (c0 c1 c2 : Byte) : State := { inited [] with color := ⟨some c0, some c1, some c2⟩ }

/-- After INIT and WDCFG k (W1). -/
def armed (k : Stage) : State :=
  { inited [] with wdk := k, wden := true, wdie := true, wdfresh := true }

/-- `WDIF` = `WDIE` = `ADIF` = `ADIE` = 1, `I` = 1, `SHADOW` = 0 (H10). -/
def bothPending : State :=
  { armed 3#3 with wdif := true, aden := true, adie := true, adif := true, I := true }

/-! ### Well-formedness: an ill-formed term for each check -/

theorem test_wellFormed_refuses_channel_three : Instr.WellFormed .seven (.setc 3#2 0#8) = false := by decide
theorem test_wellFormed_refuses_stage_above_kmax : Instr.WellFormed .six (.wdcfg 7#3) = false := by decide
theorem test_wellFormed_refuses_register_ten : Instr.WellFormed .seven (.rdreg 10#4) = false := by decide
theorem test_wellFormed_accepts_limits :
    Instr.WellFormed .seven (.wdcfg 7#3) = true ∧ Instr.WellFormed .six (.wdcfg 6#3) = true ∧
      Instr.WellFormed .seven (.setc 2#2 255#8) = true ∧ Instr.WellFormed .seven (.rdreg 9#4) = true := by
  decide

/-! ### Decoding: the words of vectors 2.1, written out from the formats -/

/-- Format N, opcode in bits 31:24 (R78, R85). -/
theorem test_decode_format_n :
    decode .seven 0b00000000000000000000000000000000#32 = .ok .nop ∧
    decode .seven 0b00000001000000000000000000000000#32 = .ok .init ∧
    decode .seven 0b00000100000000000000000000000000#32 = .ok .tx ∧
    decode .seven 0b00000101000000000000000000000000#32 = .ok .cli ∧
    decode .seven 0b00000110000000000000000000000000#32 = .ok .sei ∧
    decode .seven 0b00000111000000000000000000000000#32 = .ok .halt ∧
    decode .seven 0b00001001000000000000000000000000#32 = .ok .wdstop ∧
    decode .seven 0b00001011000000000000000000000000#32 = .ok .sample := by decide

/-- Format C, `CH` in bits 17:16 and `V` in bits 7:0 (R79). -/
theorem test_decode_format_c :
    decode .seven 0b00000010000000100000000011111111#32 = .ok (.setc 2#2 0xFF#8) ∧
    decode .seven 0x02010080#32 = .ok (.setc 1#2 0x80#8) := by decide

/-- Format P, channel 0 in bits 23:16 (R80). -/
theorem test_decode_format_p :
    decode .seven 0b00000011000100100011010001010110#32 = .ok (.setrgb 0x12#8 0x34#8 0x56#8) := by decide

/-- Format K, `K` in bits 2:0 (R81); 7 is legal only with `KMAX` = 7. -/
theorem test_decode_format_k :
    decode .seven 0b00001000000000000000000000000110#32 = .ok (.wdcfg 6#3) ∧
    decode .six 0x08000006#32 = .ok (.wdcfg 6#3) ∧
    decode .seven 0x08000007#32 = .ok (.wdcfg 7#3) ∧
    decode .six 0x08000007#32 = .error .stageOutOfRange ∧
    decode .seven 0x08000008#32 = .error .reservedBits := by decide

/-- Format T, `T` in bits 15:0 (R82). -/
theorem test_decode_format_t :
    decode .seven 0b00001010000000001001110001000000#32 = .ok (.nap 40000#16) ∧
    decode .seven 0x0A00FFFF#32 = .ok (.nap 65535#16) ∧
    decode .seven 0x0A010000#32 = .error .reservedBits := by decide

/-- Format R, `RN` in bits 3:0 (R83). -/
theorem test_decode_format_r :
    decode .seven 0b00001100000000000000000000001001#32 = .ok (.rdreg 9#4) ∧
    decode .seven 0x0C00000A#32 = .error .registerOutOfRange ∧
    decode .seven 0x0C00000F#32 = .error .registerOutOfRange ∧
    decode .seven 0x0C000010#32 = .error .reservedBits := by decide

/-- The illegal words of vectors 2.1 in the formats N and C, and the reserved opcodes. -/
theorem test_decode_illegal :
    decode .seven 0x00000001#32 = .error .reservedBits ∧
    decode .seven 0x01800000#32 = .error .reservedBits ∧
    decode .seven 0x02030000#32 = .error .channelOutOfRange ∧
    decode .seven 0x02040000#32 = .error .reservedBits ∧
    decode .seven 0x02000100#32 = .error .reservedBits ∧
    decode .seven 0x04000001#32 = .error .reservedBits ∧
    decode .seven 0x07000100#32 = .error .reservedBits ∧
    decode .seven 0x0D000000#32 = .error (.reservedOpcode 0x0D#8) ∧
    decode .seven 0x80000000#32 = .error (.reservedOpcode 0x80#8) ∧
    decode .seven 0xFFFFFFFF#32 = .error (.reservedOpcode 0xFF#8) := by decide

/-- "SETRGB 0x12, 0x34, 0x56 is stored as bytes 03 12 34 56" (R63). -/
theorem test_stored_bytes :
    bytesOfWord (encode (.setrgb 0x12#8 0x34#8 0x56#8)) = [0x03#8, 0x12#8, 0x34#8, 0x56#8] ∧
    programOfBytes [0x01#8, 0x00#8, 0x00#8, 0x00#8, 0x0A#8, 0x00#8, 0x9C#8, 0x40#8]
      = .ok [0x01000000#32, 0x0A009C40#32] ∧
    programOfBytes [0x01#8, 0x00#8] = .error .truncated := by decide

theorem test_table_words :
    decodeTableWord 32 0x00000000 = some .nop ∧ decodeTableWord 32 0x0A000064 = some (.nap 100#16) ∧
    decodeTableWord 32 0x02010080 = some (.setc 1#2 0x80#8) ∧ decodeTableWord 32 0x0D000000 = none := by decide

/-! ### The encoding of every constructor (the opcode of R85 and the format's fields) -/

theorem test_encode :
    encode .nop = 0x00000000#32 ∧ encode .init = 0x01000000#32 ∧ encode (.setc 2#2 0xFF#8) = 0x020200FF#32 ∧
    encode (.setrgb 0x12#8 0x34#8 0x56#8) = 0x03123456#32 ∧ encode .tx = 0x04000000#32 ∧
    encode .cli = 0x05000000#32 ∧ encode .sei = 0x06000000#32 ∧ encode .halt = 0x07000000#32 ∧
    encode (.wdcfg 6#3) = 0x08000006#32 ∧ encode .wdstop = 0x09000000#32 ∧
    encode (.nap 40000#16) = 0x0A009C40#32 ∧ encode .sample = 0x0B000000#32 ∧
    encode (.rdreg 9#4) = 0x0C000009#32 := by decide

/-! ### Reset -/

/-- R40: STATUS 0x02, INTCTL, WDCTL and PINCTL 0, the other registers ⊥ (G1, G2, G3). -/
theorem test_reset_registers :
    State.reset.reg 0#4 = .value 0x02#8 ∧ State.reset.reg 1#4 = .value 0#8 ∧
    State.reset.reg 2#4 = .value 0#8 ∧ State.reset.reg 9#4 = .value 0#8 ∧
    State.reset.reg 3#4 = .unwritten ∧ State.reset.reg 8#4 = .unwritten ∧
    State.reset.reg 10#4 = .reserved := by decide

/-- The first step of a program from launch runs its first word: INIT of P1 emits `Line(0)`. -/
theorem test_first_step :
    (afterStep (State.launch [0x01000000#32] [.engine])).map (fun u => (u.cp, u.trace))
      = some (1, [.line .low]) := by decide

/-- A word laid at the fetch runs in the very next step, reset included. -/
theorem test_withFetchWord :
    (afterStep (State.reset.withFetchWord 32 0x03123456)).map (fun u => (u.cp, u.color))
      = some (1, ⟨some 0x12#8, some 0x34#8, some 0x56#8⟩) := by decide

/-! ### SETC and SETRGB (vectors 2.2) -/

theorem test_setc :
    (after (.setc 1#2 0x80#8) State.reset).map (fun u => (u.color, u.cp)) = some (⟨none, some 0x80#8, none⟩, 1) ∧
    (after (.setc 2#2 0#8) State.reset).map State.color = some ⟨none, none, some 0#8⟩ := by decide

theorem test_setrgb :
    (after (.setrgb 0x12#8 0x34#8 0x56#8) State.reset).map State.color
      = some ⟨some 0x12#8, some 0x34#8, some 0x56#8⟩ := by decide

/-! ### TX (vectors 2.3) -/

/-- T3: `B1`, 22 × `B0`, `B1`, then the frame, fresh. -/
theorem test_tx_waveform :
    (after .tx (colored 0x80#8 0#8 1#8)).map State.trace
      = some ([.seg true 5, .seg false 5]
        ++ (List.replicate 22 [Event.seg true 3, .seg false 7]).flatten
        ++ [.seg true 5, .seg false 5, .frame 0x80#8 0#8 1#8 true]) := by decide

/-- T8, T9: the mask is restored, the shadow ends, `LATCHOK` is cleared. -/
theorem test_tx_mask :
    (after .tx { colored 1#8 2#8 3#8 with I := true, shadow := true }).map
      (fun u => (u.I, u.shadow, u.latchok, u.line, u.cp)) = some (true, false, false, false, 1) := by decide

/-- T13, F1: `NotInit` before `Unwritten`. -/
theorem test_tx_not_init :
    after .tx State.reset = some { State.reset with fault := some ⟨.notInit, 0, 0x04000000#32, none⟩ } := by
  decide

/-- P6b: `Unwritten` names COLOR2. -/
theorem test_tx_unwritten :
    (after .tx { inited [] with color := ⟨some 1#8, some 2#8, none⟩, cp := 3 }).map State.fault
      = some (some ⟨.unwritten, 3, 0x04000000#32, some 5#4⟩) := by decide

/-- T4: the bits of 0x123456; 9 of them are ones, so the line is high for 90 cycles. -/
theorem test_frame_bits :
    (frameBits 0x12#8 0x34#8 0x56#8).map Bool.toNat
      = [0,0,0,1,0,0,1,0, 0,0,1,1,0,1,0,0, 0,1,0,1,0,1,1,0] := by decide

/-- E3, E4: 375, 875 and 625 ns at 8 MHz; E7: 50 µs are 400 cycles; R103: 450 ns is within tolerance of
3 cycles, 526 ns is not. -/
theorem test_timing :
    Params.default.nanoseconds 3 = 375 ∧ Params.default.nanoseconds 7 = 875 ∧
    Params.default.nanoseconds 5 = 625 ∧ Params.default.nanoseconds 240 = 30000 ∧
    Params.default.resetCycles = 400 := by decide

theorem test_tolerance :
    Params.default.withinTolerance 3 450 ∧ ¬ Params.default.withinTolerance 3 526 := by
  constructor <;> norm_num [Params.withinTolerance, Params.default, abs_le]

/-! ### The ladder (vectors 2.4) -/

theorem test_ladder_seven :
    ladder .seven 15#16 = ([], 15#16) ∧ ladder .seven 100#16 = ([2#3, 1#3], 4#16) ∧
    ladder .seven 4096#16 = ([7#3, 7#3], 0#16) ∧
    ladder .seven 2047#16 = ([6#3, 5#3, 4#3, 3#3, 2#3, 1#3, 0#3], 15#16) ∧
    ladder .seven 40000#16 = (List.replicate 19 7#3 ++ [6#3, 2#3], 0#16) := by decide

theorem test_ladder_six :
    ladder .six 2049#16 = ([6#3, 6#3], 1#16) ∧ ladder .six 4096#16 = ([6#3, 6#3, 6#3, 6#3], 0#16) := by decide

/-! ### WDCFG, WDSTOP, expire (vectors 2.5) -/

/-- W1: WDCTL = 0x0B, INTCTL = 0x01. -/
theorem test_wdcfg :
    (after (.wdcfg 3#3) (inited [])).map (fun u => (u.reg 2#4, u.reg 1#4, u.wdfresh))
      = some (.value 0x0B#8, .value 0x01#8, true) := by decide

/-- With `KMAX` = 6, WDCFG 7 is illegal. -/
theorem test_wdcfg_illegal :
    (after (.wdcfg 7#3) { State.reset with cfg := { Params.default with kmax := .six } }).map State.fault
      = some (some ⟨.illegal, 0, 0x08000007#32, none⟩) := by decide

/-- W5: WDCTL = 0x03, INTCTL = 0x00. -/
theorem test_wdstop :
    (after .wdstop { armed 3#3 with wdif := true }).map (fun u => (u.reg 2#4, u.reg 1#4))
      = some (.value 0x03#8, .value 0#8) := by decide

/-- W2: the expiry sets the flag and `LATCHOK`; INTCTL = 0x03. -/
theorem test_expire :
    (afterStep { armed 3#3 with latchok := false, prog := [0#32], sched := [.expire] }).map
      (fun u => (u.reg 1#4, u.latchok, u.trace)) = some (.value 0x03#8, true, [.expire 3#3]) := by decide

/-- W6: an expiry that is not enabled changes nothing but the schedule; T12: one with `WDFRESH` = 0 leaves
`LATCHOK`. -/
theorem test_expire_disabled :
    afterStep { inited [0#32] with sched := [.expire] } = some (inited [0#32]) ∧
    (afterStep { armed 3#3 with wdfresh := false, latchok := false, prog := [0#32], sched := [.expire] }).map
      State.latchok = some false := by decide

/-! ### NAP (vectors 2.6) -/

/-- N4: NAP 100 queues 14 micro-operations and does not move `CP`. -/
theorem test_nap_queue :
    (after (.nap 100#16) (inited [])).map (fun u => (u.mq.length, u.mq.head?, u.cp))
      = some (14, some (.uSetRem 100#16), 0) := by decide

/-- R126: the five micro-operations of a stage, in order; N1: NAP 0 queues four. -/
theorem test_nap_stage :
    napQueue .seven 16#16 = [.uSetRem 16#16, .uArm 0#3, .uSei, .uHaltUntil .wdt, .uCli, .uSub 0#3, .uDisarm,
      .uCli, .uDone] ∧
    napQueue .seven 0#16 = [.uSetRem 0#16, .uDisarm, .uCli, .uDone] := by decide

/-- R125: `uSub` takes the stage's period off `NAPREM` and records the stage. -/
theorem test_uSub :
    ((({ inited [] with naprem := some 100#16 } : State).perform (.uSub 2#3)).naprem,
      (({ inited [] with naprem := some 100#16 } : State).perform (.uSub 2#3)).trace)
      = (some 36#16, [.slept 2#3]) := by decide

/-! ### SAMPLE (vectors 2.7) -/

/-- S5, F4: `NotInit`, nothing queued. -/
theorem test_sample_not_init :
    after .sample State.reset
      = some { State.reset with fault := some ⟨.notInit, 0, 0x0B000000#32, none⟩ } := by decide

theorem test_sample_queue :
    (after .sample (inited [])).map (fun u => (u.mq, u.spwr, u.cp)) = some
      ([.uSensOn, .uAdcStart, .uSei, .uHaltUntil .adc, .uCli, .uRead, .uSensOff, .uDone], false, 0) := by decide

/-- R141: the conversion writes `ADRES` and the flag, and ends. -/
theorem test_convert :
    (afterStep { inited [0#32] with adsc := true, aden := true, sched := [.convert 150#8] }).map
      (fun u => (u.adres, u.adif, u.adsc)) = some (some 150#8, true, false) := by decide

/-- S1: PINCTL = 0x0B and INTCTL = 0x00 once `uSensOff` has run. -/
theorem test_uSensOff :
    let u := ({ inited [] with spwr := true, aden := true, adie := true, adif := true } : State).perform .uSensOff
    (u.reg 9#4, u.reg 1#4, u.trace) = (.value 0x0B#8, .value 0#8, [.sense false]) := by decide

/-! ### NOP, INIT, CLI, SEI, HALT and services (vectors 2.8 to 2.11) -/

theorem test_nop :
    after .nop { State.reset with shadow := true, I := true }
      = some { State.reset with I := true, cp := 1 } := by decide

/-- G4: PINCTL = 0x0B; a second INIT emits nothing (R154). -/
theorem test_init :
    (after .init State.reset).map (fun u => (u.reg 9#4, u.trace)) = some (.value 0x0B#8, [.line .low]) ∧
    (after .init (inited [])).map State.trace = some [] := by decide

/-- H2. -/
theorem test_cli :
    (after .cli { State.reset with I := true, shadow := true }).map (fun u => (u.I, u.shadow))
      = some (false, false) := by decide

/-- H1. -/
theorem test_sei :
    (after .sei State.reset).map (fun u => (u.I, u.shadow, u.cp)) = some (true, true, 1) := by decide

/-- P7: the halt, with `CP` at the HALT and `uDone` queued. -/
theorem test_halt :
    (after .halt (inited [])).map (fun u => (u.halted, u.hwait, u.mq, u.cp))
      = some (true, .any, [.uDone], 0) := by decide

/-- H10: `WDT` first. -/
theorem test_service_priority :
    (afterStep { bothPending with sched := [.engine] }).map (fun u => (u.wdif, u.adif, u.I, u.trace))
      = some (false, true, true, [.serviced .wdt]) := by decide

/-- N8: an `ADC` service leaves a halt for `WDT`. -/
theorem test_service_keeps_halt :
    (afterStep { bothPending with wdif := false, halted := true, hwait := .wdt, mq := [.uCli],
                                  sched := [.engine] }).map (fun u => (u.halted, u.trace))
      = some (true, [.serviced .adc]) := by decide

/-- H3, F6: in the shadow the fetch runs, illegal or not, and no service is taken. -/
theorem test_shadow_holds_service :
    (afterStep { armed 0#3 with wdif := true, I := true, shadow := true, prog := [0x0D000000#32],
                                sched := [.engine] }).map (fun u => (u.fault, u.wdif, u.trace))
      = some (some ⟨.illegal, 0, 0x0D000000#32, none⟩, true, []) := by decide

/-- F5: without a shadow the service comes first. -/
theorem test_service_before_illegal :
    (afterStep { armed 0#3 with wdif := true, I := true, prog := [0x0D000000#32], sched := [.engine] }).map
      (fun u => (u.fault, u.trace)) = some (none, [.serviced .wdt]) := by decide

/-- G10, W7. -/
theorem test_rdreg_control :
    (after (.rdreg 2#4) (armed 5#3)).map (fun u => (u.resp, u.trace))
      = some (some 0x0D#8, [.resp 2#4 0x0D#8]) ∧
    (after (.rdreg 1#4) { armed 5#3 with wdif := true }).map State.resp = some (some 0x03#8) := by decide

/-- G9 and the order of the halves of `NAPREM` (R64); G3. -/
theorem test_rdreg_data :
    (after (.rdreg 7#4) { inited [] with naprem := some 0x1234#16 }).map State.resp = some (some 0x34#8) ∧
    (after (.rdreg 8#4) { inited [] with naprem := some 0x1234#16 }).map State.resp = some (some 0x12#8) ∧
    (after (.rdreg 3#4) State.reset).map State.fault
      = some (some ⟨.unwritten, 0, 0x0C000003#32, some 3#4⟩) := by decide

/-- X1, X3: inside NAP, after INIT, `Reset` and then `Line(Z)`, and every register back. -/
theorem test_reset_in_nap :
    afterStep { armed 3#3 with halted := true, hwait := .wdt, I := true, cp := 4, naprem := some 5#16,
                               mq := [.uCli, .uSub 3#3], sched := [.reset] }
      = some { State.reset with trace := [.reset, .line .z] } := by decide

/-- X2: from R0 the pin was not driven. F7: `FAULT` is kept. -/
theorem test_reset_from_reset :
    afterStep { State.reset with sched := [.reset], fault := some ⟨.illegal, 1, 0x0D000000#32, none⟩ }
      = some { State.reset with trace := [.reset], fault := some ⟨.illegal, 1, 0x0D000000#32, none⟩ } := by
  decide

/-- R171: after a fault the engine's turn is the machine's stop. -/
theorem test_faulted_stops (f : FaultRecord) :
    step { State.reset with sched := [.engine], fault := some f } = .fault (.stopped f) := rfl

/-- R20: the ports after INIT and after reset. -/
theorem test_ports :
    State.reset.dataPin = .z ∧ (inited []).dataPin = .low ∧ (inited []).spwrPin = .low ∧
    (inited []).cmdReady = true ∧ bothPending.cmdReady = false := by decide

/-! ### The assembler (R90 to R92) -/

theorem test_assemble_line :
    assemble .seven "top: setrgb".toList = .error .unknownMnemonic ∧
    assemble .seven "top: SETRGB 0x12, 52, 0x56 ; a color".toList = .ok [0x03123456#32] ∧
    assemble .seven "RDREG NAPREM_L".toList = .ok [0x0C000007#32] ∧
    assemble .six "WDCFG 7".toList = .error .operandRange := by decide

theorem test_assemble_pseudo :
    assemble .seven "OFF".toList = .ok [0x03000000#32, 0x04000000#32] ∧
    assemble .seven "STAGE 0".toList = .ok [0x08000000#32, 0x06000000#32, 0x07000000#32, 0x05000000#32] ∧
    assemble .seven "WAITI".toList = .ok [0x06000000#32, 0x07000000#32, 0x05000000#32] := by decide

/-! ### The LED's view (T10, T12, R202) -/

/-- A fresh frame followed by a latch is shown; after a reset that follows a frame nothing is known. -/
theorem test_led_view :
    ({ State.reset with trace := [.seg true 3, .frame 1#8 2#8 3#8 true, .expire 0#3] } : State).latchedFrame
      = some (1#8, 2#8, 3#8) ∧
    ({ State.reset with trace := [.seg true 3, .frame 1#8 2#8 3#8 true, .reset] } : State).latchedFrame = none := by
  decide

/-! ### Witnesses: what meets each statement's hypotheses -/

/-- The engine at the fetch of the word after INIT, with these turns to come. -/
def fetching (w : Word) (sched : List Turn) : State := { inited [w] with sched := sched }

theorem fetching_holds (w : Word) (sched : List Turn) : (fetching w sched).Fetching w :=
  ⟨rfl, rfl, rfl, rfl, rfl⟩

/-- SetcWritesOneChannel: the channels 0, 1 and 2 meet its second clause, 3 the third. -/
theorem test_witness_setc :
    (0#2 : Channel) ≠ 3#2 ∧ (1#2 : Channel) ≠ 3#2 ∧ (2#2 : Channel) ≠ 3#2 ∧
      (after (.setc 2#2 5#8) State.reset).isSome = true ∧
      decode State.reset.cfg.kmax (encode (.setc 3#2 5#8)) = .error .channelOutOfRange := by decide

/-- WdcfgArmsAndWdstopDisarms: the lowest and the top stage, with either `KMAX`, and a stage above it. -/
theorem test_witness_wdcfg :
    let six : State := { inited [] with cfg := { Params.default with kmax := .six } }
    (0#3 : Stage).toNat ≤ (inited []).cfg.kmax.toNat ∧ (7#3 : Stage).toNat ≤ (inited []).cfg.kmax.toNat ∧
      (6#3 : Stage).toNat ≤ six.cfg.kmax.toNat ∧ six.cfg.kmax.toNat < (7#3 : Stage).toNat := by decide

/-- TxSendsFrame: its three clauses; and WaveformCarriesColor with the default parameters. -/
theorem test_witness_tx :
    State.reset.ddata = false ∧ ((inited []).ddata = true ∧ (inited []).color.c0 = none) ∧
    (colored 1#8 2#8 3#8).ddata = true ∧ (colored 1#8 2#8 3#8).color = ⟨some 1#8, some 2#8, some 3#8⟩ ∧
      (colored 1#8 2#8 3#8).cfg.wf := by decide

/-- RdregReadsRegisterMap, the control registers: all four. -/
theorem test_witness_rdreg_control (s : State) :
    ∀ rn ∈ [0#4, 1#4, 2#4, 9#4], ∃ bits, ((rn : RegNum), bits) ∈
      [(0#4, [s.I, s.latchok, s.line]), (1#4, [s.wdie, s.wdif, s.adie, s.adif]),
       (2#4, [s.wdk.getLsbD 0, s.wdk.getLsbD 1, s.wdk.getLsbD 2, s.wden]),
       (9#4, [s.ddata, s.dspwr, s.spwr, s.didr, s.aden, s.adsc])] := by
  intro rn h
  simp only [List.mem_cons, List.not_mem_nil, or_false] at h
  rcases h with rfl | rfl | rfl | rfl
  · exact ⟨_, .head _⟩
  · exact ⟨_, .tail _ (.head _)⟩
  · exact ⟨_, .tail _ (.tail _ (.head _))⟩
  · exact ⟨_, .tail _ (.tail _ (.tail _ (.head _)))⟩

/-- A state whose data registers are all written. -/
def allWritten : State := { colored 1#8 2#8 3#8 with sample := some 4#8, naprem := some 0x0605#16 }

/-- RdregReadsRegisterMap, the data registers, written: all six; and the first reserved number. -/
theorem test_witness_rdreg_data :
    let row : List (RegNum × Option Byte) :=
      [(3#4, allWritten.color.c0), (4#4, allWritten.color.c1), (5#4, allWritten.color.c2),
       (6#4, allWritten.sample), (7#4, allWritten.naprem.map fun r => BitVec.ofNat 8 (r.toNat % 256)),
       (8#4, allWritten.naprem.map fun r => BitVec.ofNat 8 (r.toNat / 256))]
    (3#4, some 1#8) ∈ row ∧ (4#4, some 2#8) ∈ row ∧ (5#4, some 3#8) ∈ row ∧ (6#4, some 4#8) ∈ row ∧
      (7#4, some 5#8) ∈ row ∧ (8#4, some 6#8) ∈ row ∧ 9 < (10#4 : RegNum).toNat := by decide

/-- SampleQueuesSequence after INIT; TxAndSampleBeforeInitFault before it, both clauses. -/
theorem test_witness_sample_init :
    (inited []).dspwr = true ∧ State.reset.ddata = false ∧ State.reset.dspwr = false := by decide

/-- TxUnwrittenColorFaults: one state for each clause. -/
theorem test_witness_tx_unwritten :
    ((inited []).ddata = true ∧ (inited []).color.c0 = none) ∧
    (let c : Color := ⟨some 1#8, none, none⟩; c.c0 ≠ none ∧ c.c1 = none) ∧
    (let c : Color := ⟨some 1#8, some 2#8, none⟩; c.c0 ≠ none ∧ c.c1 ≠ none ∧ c.c2 = none) := by decide

/-- RdregReadsRegisterMap, the data registers right after reset: all six hold ⊥. -/
theorem test_witness_rdreg_unwritten :
    ∀ rn ∈ [3#4, 4#4, 5#4, 6#4, 7#4, 8#4], ((rn : RegNum), (none : Option Byte)) ∈
      [(3#4, State.reset.color.c0), (4#4, State.reset.color.c1), (5#4, State.reset.color.c2),
       (6#4, State.reset.sample), (7#4, State.reset.naprem.map fun r => BitVec.ofNat 8 (r.toNat % 256)),
       (8#4, State.reset.naprem.map fun r => BitVec.ofNat 8 (r.toNat / 256))] := by decide

/-- IllegalOperandsFault: a channel and a register at the boundary, with the default parameters, and a stage
with `KMAX` = 6. -/
theorem test_witness_illegal_operands :
    Instr.WellFormed State.reset.cfg.kmax (.setc 3#2 0#8) = false ∧
    Instr.WellFormed State.reset.cfg.kmax (.rdreg 10#4) = false ∧
    Instr.WellFormed MaxStage.six (.wdcfg 7#3) = false := by decide

/-- IllegalWordFaultsAtFetch. -/
theorem test_witness_illegal_word :
    (fetching 0x0D000000#32 [.engine]).turn = .engine ∧
    (fetching 0x0D000000#32 [.engine]).Fetching 0x0D000000#32 ∧
    ∀ i, decode (fetching 0x0D000000#32 [.engine]).cfg.kmax 0x0D000000#32 ≠ .ok i := by
  refine ⟨rfl, fetching_holds _ _, fun i => ?_⟩
  rw [show decode (fetching 0x0D000000#32 [.engine]).cfg.kmax 0x0D000000#32
    = .error (.reservedOpcode 0x0D#8) by decide]
  simp

/-- FaultedMachineStops. -/
theorem test_witness_faulted :
    let s : State := { State.reset with sched := [.expire], fault := some ⟨.notInit, 0, 0x04000000#32, none⟩ }
    s.fault = some ⟨.notInit, 0, 0x04000000#32, none⟩ ∧ s.turn ≠ .reset := by decide

/-- StepRunsDecodedCommand: a fetch with a turn laid down, and a state with none. -/
theorem test_witness_step_runs :
    (fetching 0x0A000064#32 [.engine]).turn = .engine ∧
    (fetching 0x0A000064#32 [.engine]).Fetching 0x0A000064#32 ∧
    decode (fetching 0x0A000064#32 [.engine]).cfg.kmax 0x0A000064#32 = .ok (.nap 100#16) ∧
    (fetching 0x0A000064#32 [.engine]).sched = .engine :: [] ∧ State.reset.sched = [] :=
  ⟨rfl, fetching_holds _ _, by decide, rfl, rfl⟩

/-- StepPerformsQueueHead. -/
theorem test_witness_queue_head :
    let s : State := { inited [] with mq := [.uDone], sched := [.engine] }
    s.turn = .engine ∧ s.fault = none ∧ s.serviceDue = false ∧ s.halted = false ∧ s.mq = .uDone :: [] := by
  decide

/-- MicroOperationEffects: a remainder and a result that have been written. -/
theorem test_witness_micro_operations :
    let s : State := { inited [] with naprem := some 16#16, adres := some 0#8 }
    s.naprem = some 16#16 ∧ s.adres = some 0#8 := by decide

/-- DueServiceIsTaken: both sources pending, and the converter alone. -/
theorem test_witness_due_service :
    (let s : State := { bothPending with sched := [.engine] }
     s.turn = .engine ∧ s.fault = none ∧ s.I = true ∧ s.shadow = false ∧ s.wdif = true ∧ s.wdie = true) ∧
    (let s : State := { bothPending with sched := [.engine], wdif := false }
     s.turn = .engine ∧ s.fault = none ∧ s.I = true ∧ s.shadow = false ∧ (s.wdif && s.wdie) = false ∧
       s.adif = true ∧ s.adie = true) := by decide

/-- WithoutStepTurnPasses: P7's stuck halt, and an ended program with an expiry due to come. -/
theorem test_witness_without_step :
    (let s : State := { inited [] with halted := true, mq := [.uDone], sched := [.engine] }
     s.fault = none ∧ s.turn = .engine ∧ s.halted = true ∧ s.I = false) ∧
    (let s : State := { armed 0#3 with sched := [.expire] }
     s.fault = none ∧ s.halted = false ∧ s.mq = [] ∧ s.cp = s.prog.length ∧ s.serviceDue = false ∧
       s.turn ≠ .reset) := by decide

/-- ReadyExactlyAtFetch: a state that is ready and one that is not. -/
theorem test_witness_ready :
    (fetching 0#32 []).prog[(fetching 0#32 []).cp]? = some 0#32 ∧ (fetching 0#32 []).cmdReady = true ∧
    ({ fetching 0#32 [] with halted := true } : State).cmdReady = false := by decide

/-- ExpireSetsFlag: both clauses. -/
theorem test_witness_expire :
    (let s : State := { armed 7#3 with prog := [0#32], sched := [.expire] }
     s.turn = .expire ∧ s.fault = none ∧ s.wden = true ∧ s.ended = false) ∧
    (let s : State := { inited [] with sched := [.expire] }
     s.turn = .expire ∧ s.fault = none ∧ s.wden = false ∧ s.ended = true) := by decide

/-- ConvertDeliversDraw: both clauses, at the extreme draws (S2, S3). -/
theorem test_witness_convert :
    (let s : State := { inited [0#32] with adsc := true, aden := true, sched := [.convert 255#8] }
     s.turn = .convert 255#8 ∧ s.fault = none ∧ s.adsc = true ∧ s.aden = true ∧ s.ended = false) ∧
    (let s : State := { inited [0#32] with sched := [.convert 0#8] }
     s.turn = .convert 0#8 ∧ s.fault = none ∧ s.adsc = false) := by decide

/-- ResetFromEveryState and RegistersAfterReset. -/
theorem test_witness_reset : ({ bothPending with sched := [.reset] } : State).turn = .reset := by decide

/-- DecodeOfEncode and EncodeOfDecode. -/
theorem test_witness_encoding :
    Instr.WellFormed .seven (.wdcfg 7#3) = true ∧ decode .seven 0x08000007#32 = .ok (.wdcfg 7#3) := by decide

/-- LegalWordsMatchTable: the constrained rows at the limit of their fields. -/
theorem test_witness_table :
    (⟨"SETC", 0xFFFCFF00#32, 0x02000000#32⟩ : OpcodeRow) ∈ opcodeTable ∧
    0x020200FF#32 &&& 0xFFFCFF00#32 = 0x02000000#32 ∧ (0x020200FF#32).extractLsb' 16 2 ≠ 3#2 ∧
    (⟨"WDCFG", 0xFFFFFFF8#32, 0x08000000#32⟩ : OpcodeRow) ∈ opcodeTable ∧
    0x08000007#32 &&& 0xFFFFFFF8#32 = 0x08000000#32 ∧
    ((0x08000007#32).extractLsb' 0 3).toNat ≤ MaxStage.seven.toNat ∧
    (⟨"RDREG", 0xFFFFFFF0#32, 0x0C000000#32⟩ : OpcodeRow) ∈ opcodeTable ∧
    0x0C000009#32 &&& 0xFFFFFFF0#32 = 0x0C000000#32 ∧ ((0x0C000009#32).extractLsb' 0 4).toNat ≤ 9 := by decide

/-- AssembledWordsAreLegal. -/
theorem test_witness_assembled :
    assemble .seven "SHOW 1, 2, 3".toList = .ok [0x03010203#32, 0x04000000#32] ∧
    0x04000000#32 ∈ [0x03010203#32, 0x04000000#32] := by decide

/-- AssemblerFollowsOperandTable: operand texts at and above the limits, in both bases. -/
theorem test_witness_operands :
    parseNumber "65535".toList = some 65535 ∧ parseNumber "0xFF".toList = some 255 ∧
    parseNumber "0x10000".toList = some 65536 ∧
    assemble .seven "NAP 0x10000".toList = .error .operandRange ∧
    assemble .seven "SETC 0, 256".toList = .error .operandRange ∧
    assemble .seven "NAP 65535".toList = .ok [0x0A00FFFF#32] := by decide

/-- LatchedFreshFrameIsShown: from launch, where `LATCHOK` = 1, and right after a frame, where it is 0; the
premises for a tick of one second and the default parameters, and their failure for a tick of no length. -/
theorem test_witness_latched :
    (let s := colored 1#8 2#8 3#8
     s.ddata = true ∧ s.color = ⟨some 1#8, some 2#8, some 3#8⟩ ∧ s.latchok = true ∧
       (s.trace.foldl LedView.see LedView.launch).sound = true ∧ (after .tx s).isSome = true) ∧
    (let s : State := { colored 1#8 2#8 3#8 with latchok := false, trace := [.frame 1#8 2#8 3#8 true] }
     s.ddata = true ∧ (s.trace.foldl LedView.see LedView.launch).sound = true) := by decide

theorem test_witness_light :
    (colored 1#8 2#8 3#8).cfg.latchPremise 1 ∧ frameUnbroken (colored 1#8 2#8 3#8).cfg ∧
      ¬ (colored 1#8 2#8 3#8).cfg.latchPremise 0 := by
  refine ⟨?_, ?_, ?_⟩
  · show ((50000 : Nat) : ℝ) / 1000000000 ≤ 16 * 1
    norm_num
  · show ∀ b, lowCycles Params.default b * 1000000000 ≤ 50000 * 8000000
    decide
  · show ¬ ((50000 : Nat) : ℝ) / 1000000000 ≤ 16 * 0
    norm_num

/-- R107: with a period of 500 cycles a low pulse outlasts the threshold, so nothing is claimed of the light. -/
theorem test_broken_frame : ¬ frameUnbroken { Params.default with tbit := 500 } := by
  intro h
  exact absurd (h false) (by decide)

/-- LadderOrderAndCounts: a stage below `KMAX`, and the top stage of a ladder. -/
theorem test_witness_ladder :
    (0#3 : Stage).toNat < MaxStage.six.toNat ∧ (6#3 : Stage).toNat < MaxStage.seven.toNat ∧
      7#3 ∈ (ladder .seven 2048#16).1 := by decide

/-- NapRunsToCompletion: one stage with interrupts enabled (N7), and no stage (T = 15). -/
theorem test_witness_nap :
    (let s : State := { fetching (encode (.nap 16#16)) (napTurns .seven 16#16) with I := true }
     s.Fetching (encode (.nap 16#16)) ∧ false = (s.I && s.pend .wdt) ∧
       s.sched = [] ++ napTurns s.cfg.kmax 16#16 ++ [] ∧ s.pend .adc = false) ∧
    (let s := fetching (encode (.nap 15#16)) (napTurns .seven 15#16)
     s.Fetching (encode (.nap 15#16)) ∧ false = (s.I && s.pend .wdt) ∧
       s.sched = [] ++ napTurns s.cfg.kmax 15#16 ++ [] ∧ s.pend .adc = false ∧
       (ladder s.cfg.kmax 15#16).1 = []) :=
  ⟨⟨⟨rfl, rfl, rfl, rfl, rfl⟩, rfl, (List.append_nil _).symm, rfl⟩,
    ⟨⟨rfl, rfl, rfl, rfl, rfl⟩, rfl, (List.append_nil _).symm, rfl, by decide⟩⟩

/-- NapRunsToCompletion: fetched in SEI's shadow with the countdown's interrupt pending (N7). -/
theorem test_witness_nap_shadow :
    let s : State := { armed 0#3 with
      wdif := true, I := true, shadow := true, prog := [encode (.nap 16#16)]
      sched := .engine :: napTurns .seven 16#16 }
    s.Fetching (encode (.nap 16#16)) ∧ true = (s.I && s.pend .wdt) ∧
      s.sched = [.engine] ++ napTurns s.cfg.kmax 16#16 ++ [] ∧ s.pend .adc = false :=
  ⟨⟨rfl, rfl, rfl, rfl, rfl⟩, rfl, (List.append_nil _).symm, rfl⟩

/-- SampleRunsToCompletion. -/
theorem test_witness_sample :
    let s := fetching (encode .sample) (sampleTurns 150#8)
    s.Fetching (encode .sample) ∧ s.dspwr = true ∧ s.sched = sampleTurns 150#8 ++ [] ∧
      (s.wdif && s.wdie) = false ∧ (s.adif && s.adie) = false :=
  ⟨fetching_holds _ _, rfl, rfl, rfl, rfl⟩

/-- NoMissedWake: at a HALT (H5), and at a micro-operation's halt. -/
theorem test_witness_missed_wake :
    (let s : State := { armed 0#3 with wdif := true, I := true, shadow := true, prog := [0x07000000#32]
                                       sched := [.engine, .engine, .engine] }
     s.fault = none ∧ s.halted = false ∧ s.I = true ∧ s.shadow = true ∧ s.pend .wdt = true ∧
       HaltWait.any.endedBy .wdt = true ∧ s.mq = [] ∧ s.prog[s.cp]? = some 0x07000000#32 ∧
       s.sched = .engine :: .engine :: .engine :: []) ∧
    (let s : State := { bothPending with shadow := true, mq := [.uHaltUntil .adc]
                                         sched := [.engine, .engine, .engine] }
     s.fault = none ∧ s.halted = false ∧ s.I = true ∧ s.shadow = true ∧ s.pend .adc = true ∧
       HaltWait.adc.endedBy .adc = true ∧ s.mq = .uHaltUntil .adc :: [] ∧
       s.sched = .engine :: .engine :: .engine :: []) := by decide

/-- HaltThatNothingEndsIsPermanent: P7, and H8 and H9. -/
theorem test_witness_permanent_halt :
    (let s : State := { inited [0#32] with halted := true, mq := [.uDone], sched := [.engine, .expire] }
     s.fault = none ∧ s.halted = true ∧ s.I = false ∧ s.sched = [.engine, .expire] ++ [] ∧
       .reset ∉ s.sched) ∧
    (let s : State := { inited [0#32] with halted := true, mq := [.uDone], I := true, sched := [.engine] }
     s.halted = true ∧ (s.wdif && s.wdie) = false ∧ (s.adif && s.adie) = false ∧ s.adsc = false ∧
       s.wden = false) ∧
    (let s : State := { armed 0#3 with halted := true, mq := [.uDone], I := true, wdie := false }
     s.halted = true ∧ s.wden = true ∧ s.wdie = false ∧ s.adsc = false) := by decide

/-- FairRunEndsHalt: the turns of a run, ... -/
def fairTurns : Nat → Turn
  | 0 => .expire
  | 1 => .engine
  | 2 => .engine
  | n + 3 => if n % 2 = 0 then .expire else .engine

/-- ... and its states: a halted HALT, the expiry, the service that ends the halt, and from then on the end of
the program, where no agent has a step. -/
def fairStart : State :=
  { armed 0#3 with I := true, halted := true, prog := [0x07000000#32], mq := [.uDone] }

def fairRun : Nat → State
  | 0 => fairStart
  | 1 => { fairStart with wdif := true, trace := [.expire 0#3] }
  | 2 => { fairStart with halted := false, trace := [.expire 0#3, .serviced .wdt] }
  | _ + 3 => { fairStart with
      halted := false, trace := [.expire 0#3, .serviced .wdt], mq := [], cp := 1 }

theorem fairRun_isRun : IsRun fairTurns fairRun
  | 0 => rfl
  | 1 => rfl
  | 2 => rfl
  | n + 3 => by
    by_cases h : n % 2 = 0
    · simp only [RunStep, fairTurns, h, if_true]; rfl
    · simp only [RunStep, fairTurns, h, if_false]; rfl

theorem fairRun_fair : WeaklyFair fairTurns fairRun := fun n =>
  ⟨⟨n + 3, Nat.le_add_right _ _, fun h => absurd h (by show ¬ false = true; decide)⟩,
    ⟨n + 3, Nat.le_add_right _ _, fun h => absurd h (by show ¬ false = true; decide)⟩,
    ⟨n + 3, Nat.le_add_right _ _, fun h => absurd h (by show ¬ false = true; decide)⟩⟩

/-- FairRunEndsHalt, the first clause. -/
theorem test_witness_fair_run :
    (∀ m, 0 ≤ m → HaltedUpTo fairRun 0 m → RunStep fairTurns fairRun m ∧ fairTurns m ≠ .reset) ∧
    ((∀ m, 0 ≤ m → (fairRun m).halted = true) → WeaklyFair fairTurns fairRun) ∧
    (fairRun 0).fault = none ∧ (fairRun 0).halted = true ∧ (fairRun 0).I = true ∧
    (fairRun 0).shadow = false ∧ (fairRun 0).hwait ≠ .adc ∧ (fairRun 0).wden = true ∧
    (fairRun 0).wdie = true := by
  refine ⟨fun m _ _ => ⟨fairRun_isRun m, ?_⟩, fun _ => fairRun_fair, rfl, rfl, rfl, rfl, by decide, rfl, rfl⟩
  match m with
  | 0 => decide
  | 1 => decide
  | 2 => decide
  | n + 3 => simp only [fairTurns]; split <;> decide

/-- FairRunEndsHalt, the second clause: a halt for ADC, the conversion, its service, and the end. -/
def fairTurnsAdc : Nat → Turn
  | 0 => .convert 7#8
  | _ + 1 => .engine

def fairStartAdc : State :=
  { inited [0x0B000000#32] with I := true, halted := true, hwait := .adc, aden := true, adie := true
                                adsc := true, mq := [.uDone] }

def fairRunAdc : Nat → State
  | 0 => fairStartAdc
  | 1 => { fairStartAdc with adres := some 7#8, adsc := false, adif := true }
  | 2 => { fairStartAdc with adres := some 7#8, adsc := false, halted := false, trace := [.serviced .adc] }
  | _ + 3 => { fairStartAdc with
      adres := some 7#8, adsc := false, halted := false, trace := [.serviced .adc], mq := [], cp := 1 }

theorem fairRunAdc_isRun : IsRun fairTurnsAdc fairRunAdc
  | 0 => rfl
  | 1 => rfl
  | 2 => rfl
  | _ + 3 => rfl

theorem test_witness_fair_run_adc :
    (∀ m, 0 ≤ m → HaltedUpTo fairRunAdc 0 m → RunStep fairTurnsAdc fairRunAdc m ∧ fairTurnsAdc m ≠ .reset) ∧
    ((∀ m, 0 ≤ m → (fairRunAdc m).halted = true) → WeaklyFair fairTurnsAdc fairRunAdc) ∧
    (fairRunAdc 0).fault = none ∧ (fairRunAdc 0).halted = true ∧ (fairRunAdc 0).I = true ∧
    (fairRunAdc 0).shadow = false ∧ (fairRunAdc 0).hwait ≠ .wdt ∧ (fairRunAdc 0).aden = true ∧
    (fairRunAdc 0).adie = true ∧ (fairRunAdc 0).adsc = true ∧ (fairRunAdc 0).wdie = false := by
  refine ⟨fun m _ _ => ⟨fairRunAdc_isRun m, ?_⟩, fun h => absurd (h 2 (Nat.zero_le _)) (by decide),
    rfl, rfl, rfl, rfl, by decide, rfl, rfl, rfl, rfl⟩
  match m with
  | 0 => decide
  | _ + 1 => simp [fairTurnsAdc]

/-- FairRunEndsHalt: a halt in a program whose next word is illegal. The run is not infinite; it is asked about
only up to the end of the halt. -/
def faultingRun : Nat → State
  | 0 => { fairStart with prog := [0x07000000#32, 0x0D000000#32] }
  | 1 => { fairStart with prog := [0x07000000#32, 0x0D000000#32], wdif := true, trace := [.expire 0#3] }
  | _ + 2 => { fairStart with
      prog := [0x07000000#32, 0x0D000000#32], halted := false, trace := [.expire 0#3, .serviced .wdt] }

theorem test_witness_faulting_run :
    (∀ m, 0 ≤ m → HaltedUpTo faultingRun 0 m → RunStep fairTurns faultingRun m ∧ fairTurns m ≠ .reset) ∧
    ((∀ m, 0 ≤ m → (faultingRun m).halted = true) → WeaklyFair fairTurns faultingRun) ∧
    (faultingRun 0).fault = none ∧ (faultingRun 0).halted = true ∧ (faultingRun 0).I = true ∧
    (faultingRun 0).shadow = false ∧ (faultingRun 0).hwait ≠ .adc ∧ (faultingRun 0).wden = true ∧
    (faultingRun 0).wdie = true := by
  refine ⟨?_, fun h => absurd (h 2 (Nat.zero_le _)) (by decide), rfl, rfl, rfl, rfl, by decide, rfl, rfl⟩
  intro m _ h
  match m with
  | 0 => exact ⟨rfl, by decide⟩
  | 1 => exact ⟨rfl, by decide⟩
  | m + 2 => exact absurd (h 2 (Nat.zero_le _) (by omega)) (by decide)

/-- FairRunEndsHalt, the NAP: one of a single stage entered with `I` = 1, an expiry while it is halted and another
after the engine's two turns that R117's period outlasts. -/
def napFairTurns (m : Nat) : Turn := if m = 5 ∨ m = 8 then .expire else .engine

def napFairStart : State := { inited [encode (.nap 16#16)] with I := true }

def napFairRun : Nat → State
  | 0 => napFairStart
  | m + 1 =>
    match step { napFairRun m with sched := [napFairTurns m] } with
    | .next u => u
    | .fault _ => napFairStart
    | .refused _ => napFairStart

theorem napFairRun_period (m : Nat) : PeriodKept napFairTurns napFairRun m := by
  intro ht _ he n hn hp
  have hm : m = 5 ∨ m = 8 := by
    by_contra h; simp [napFairTurns, h] at ht
  rcases hm with rfl | rfl
  · exact absurd he (by decide)
  · by_cases h : n ≤ 5
    · exact ⟨6, 7, by omega, by omega, by omega, by decide, by decide⟩
    · have h' : n = 6 ∨ n = 7 := by omega
      rcases h' with rfl | rfl
      · rcases hp with hp | hp
        · exact absurd hp.1 (by decide)
        · exact absurd hp.2.1 (by decide)
      · rcases hp with hp | ⟨_, _, _, ⟨k, rest, hp⟩ | ⟨k, hp⟩⟩
        · exact absurd hp.1 (by decide)
        · have hq : (napFairRun 7).mq = [.uCli, .uSub 0#3, .uDisarm, .uCli, .uDone] := by decide
          rw [hq] at hp; cases hp
        · exact absurd hp.idle (by decide)

theorem test_witness_fair_nap :
    (napFairRun 0).Inv ∧ (napFairRun 0).Fetching (encode (.nap 16#16)) ∧
    (∀ m, 0 ≤ m → (∀ j, 0 ≤ j → j ≤ m → (napFairRun j).cp = (napFairRun 0).cp) →
      RunStep napFairTurns napFairRun m ∧ napFairTurns m ≠ .reset ∧ PeriodKept napFairTurns napFairRun m) ∧
    ((∀ m, 0 ≤ m → (napFairRun m).cp = (napFairRun 0).cp) → WeaklyFair napFairTurns napFairRun) := by
  have last : (napFairRun 13).cp ≠ (napFairRun 0).cp := by decide
  refine ⟨?_, ⟨rfl, rfl, rfl, rfl, rfl⟩, fun m _ h => ⟨?_, ?_, napFairRun_period m⟩,
    fun h => absurd (h 13 (by omega)) last⟩
  · constructor <;>
      simp [napFairRun, napFairStart, inited, State.reset, Params.default, queueShape, stageArmed]
  · have hm : m < 13 := by
      by_contra hm
      exact last (h 13 (by omega) (by omega))
    clear h
    interval_cases m <;> rfl
  · unfold napFairTurns; split <;> decide

/-- NapAndSampleHaltsCanEnd: both commands, run up to their halt. -/
theorem test_witness_halts_can_end :
    (let s := fetching (encode (.nap 16#16)) (List.replicate 5 .engine)
     s.Fetching (encode (.nap 16#16)) ∧ .reset ∉ List.replicate 5 Turn.engine ∧
       ∃ u, Host.Core.run Sys2Proof.core 5 s = .next u ∧ u.cp = s.cp ∧ u.halted = true) ∧
    ∀ b, (let s : State := { fetching (encode .sample) (List.replicate 5 .engine) with I := b }
     s.Fetching (encode .sample) ∧
       ∃ u, Host.Core.run Sys2Proof.core 5 s = .next u ∧ u.cp = s.cp ∧ u.halted = true) :=
  ⟨⟨fetching_holds _ _, by decide, _, rfl, rfl, rfl⟩,
    fun b => by cases b <;> exact ⟨⟨rfl, rfl, rfl, rfl, rfl⟩, _, rfl, rfl, rfl⟩⟩

/-- SampleEnteredUnmaskedCanHang: with two turns after the seventh. -/
theorem test_witness_sample_unmasked :
    let s : State := { fetching (encode .sample)
      [.engine, .engine, .engine, .convert 9#8, .engine, .engine, .engine, .convert 9#8, .engine] with I := true }
    s.Fetching (encode .sample) ∧ s.dspwr = true ∧ s.I = true ∧ (s.wdif && s.wdie) = false ∧
      (s.adif && s.adie) = false ∧ .reset ∉ [Turn.convert 9#8, .engine] ∧
      s.sched = [.engine, .engine, .engine, .convert 9#8, .engine, .engine, .engine]
        ++ [.convert 9#8, .engine] ++ [] :=
  ⟨⟨rfl, rfl, rfl, rfl, rfl⟩, rfl, rfl, rfl, rfl, by decide, rfl⟩

/-- ExpiriesStarveTheQueue. -/
theorem test_witness_starved :
    let s : State := { armed 0#3 with I := true, mq := [.uCli, .uSub 0#3]
                                      sched := [.expire, .engine, .expire, .engine] }
    s.fault = none ∧ s.halted = false ∧ s.mq ≠ [] ∧ s.I = true ∧ s.shadow = false ∧ s.wden = true ∧
      s.wdie = true ∧ s.sched = (List.replicate 2 [Turn.expire, Turn.engine]).flatten ++ [] := by decide

/-- A state inside NAP 16, halted in its stage. -/
def inNap (sched : List Turn) : State :=
  { armed 0#3 with I := true, halted := true, hwait := .wdt, naprem := some 16#16, prog := [0x0A000010#32]
                   mq := [.uCli, .uSub 0#3, .uDisarm, .uCli, .uDone], sched := sched }

theorem inNap_queue :
    queueShape .seven [.uCli, .uSub 0#3, .uDisarm, .uCli, .uDone] :=
  .inr (.inr ⟨16#16, by decide⟩)

theorem inNap_inv (sched : List Turn) : (inNap sched).Inv := by
  constructor <;>
    first
    | exact inNap_queue
    | simp [inNap, armed, inited, State.reset, Params.default, stageArmed, ticksToAccount]

/-- A state inside SAMPLE, about to read the result. -/
def inSample (sched : List Turn) : State :=
  { inited [0x0B000000#32] with spwr := true, aden := true, adie := true, adres := some 7#8
                                mq := [.uRead, .uSensOff, .uDone], hwait := .adc, sched := sched }

theorem inSample_queue : queueShape .seven [.uRead, .uSensOff, .uDone] := .inr (.inl (by decide))

theorem inSample_inv (sched : List Turn) : (inSample sched).Inv := by
  constructor <;>
    first
    | exact inSample_queue
    | simp [inSample, inited, State.reset, Params.default, stageArmed]

/-- StepKeepsInvariant: a state inside NAP whose countdown expires. -/
theorem test_witness_invariant :
    (inNap [.expire]).Inv ∧ ∃ u, step (inNap [.expire]) = .next u ∧ u.wdif = true :=
  ⟨inNap_inv _, _, rfl, rfl⟩

/-- TraceFaultAndProgramPersist: a reset of a faulted state; CommandPointerMovesByOne: a command, the end of a
long one, and a reset. -/
theorem test_witness_persist_and_pointer :
    (∃ u, step { inited [] with sched := [.reset], fault := some ⟨.illegal, 0, 0#32, none⟩ } = .next u ∧
      u.fault ≠ none) ∧
    (∃ u, step (fetching 0#32 [.engine]) = .next u ∧ u.cp = 1) ∧
    (∃ u, step { inited [0x07000000#32] with mq := [.uDone], sched := [.engine] } = .next u ∧ u.cp = 1) ∧
    (∃ u, step { inited [] with cp := 3, sched := [.reset] } = .next u ∧ u.cp = 0) :=
  ⟨⟨_, rfl, by decide⟩, ⟨_, rfl, rfl⟩, ⟨_, rfl, rfl⟩, ⟨_, rfl, rfl⟩⟩

/-- HaltEndsOnlyByServiceOrReset and ServicesNeedEnabledPendingSource: a service that ends a halt. -/
theorem test_witness_halt_ends :
    let s : State := { inNap [.engine] with wdif := true }
    ∃ u, step s = .next u ∧ s.halted = true ∧ u.halted = false ∧
      .serviced .wdt ∈ u.trace.drop s.trace.length :=
  ⟨_, rfl, rfl, rfl, by decide⟩

/-- LatchOkWriters: an expiry that sets it and a TX that clears it. -/
theorem test_witness_latchok :
    (∃ u, step { armed 0#3 with latchok := false, prog := [0#32], sched := [.expire] } = .next u ∧
      u.latchok = true) ∧
    (∃ u, step { colored 1#8 2#8 3#8 with prog := [0x04000000#32], sched := [.engine] } = .next u ∧
      u.latchok = false) :=
  ⟨⟨_, rfl, rfl⟩, ⟨_, rfl, by decide⟩⟩

/-- InterruptEnableWriters: SEI sets `I`, CLI clears it. -/
theorem test_witness_mask :
    (∃ u, step (fetching 0x06000000#32 [.engine]) = .next u ∧ u.I = true) ∧
    (∃ u, step { fetching 0x05000000#32 [.engine] with I := true } = .next u ∧ u.I = false) :=
  ⟨⟨_, rfl, rfl⟩, ⟨_, rfl, rfl⟩⟩

/-- FlagWriters: each flag set and cleared. -/
theorem test_witness_flags :
    (∃ u, step (inNap [.expire]) = .next u ∧ (inNap [.expire]).wdif = false ∧ u.wdif = true) ∧
    (∃ u, step { inNap [.engine] with wdif := true } = .next u ∧ u.wdif = false) ∧
    (∃ u, step { inSample [.convert 1#8] with adsc := true } = .next u ∧ u.adif = true) ∧
    (∃ u, step { bothPending with wdif := false, sched := [.engine] } = .next u ∧ u.adif = false) :=
  ⟨⟨_, rfl, rfl, rfl⟩, ⟨_, rfl, rfl⟩, ⟨_, rfl, rfl⟩, ⟨_, rfl, rfl⟩⟩

/-- ColorWriters: a SETC changes the color. -/
theorem test_witness_color :
    ∃ u, step (fetching 0x02010080#32 [.engine]) = .next u ∧ u.color ≠ (fetching 0x02010080#32 [.engine]).color :=
  ⟨_, rfl, by decide⟩

/-- OnlyTxEmitsSegments: a TX emits a segment. -/
theorem test_witness_segments :
    let s : State := { colored 0#8 0#8 0#8 with prog := [0x04000000#32], sched := [.engine] }
    ∃ u, step s = .next u ∧ .seg true 3 ∈ u.trace.drop s.trace.length :=
  ⟨_, rfl, by decide⟩

/-- PinChangesAreRecorded: a reset of a state that drives the pin. -/
theorem test_witness_pin :
    (inNap [.reset]).Inv ∧ ∃ u, step (inNap [.reset]) = .next u ∧ u.dataPin ≠ (inNap [.reset]).dataPin :=
  ⟨inNap_inv _, _, rfl, by decide⟩

/-- SamplesAreNeverUnwritten: the step that records a sample. -/
theorem test_witness_sampled :
    (inSample [.engine]).Inv ∧ ∃ u, step (inSample [.engine]) = .next u ∧ .sampled (some 7#8) ∈ u.trace :=
  ⟨inSample_inv _, _, rfl, by decide⟩

end Sys2Proof.Tests
end

section
/-! PROOF. Steps of a run without resets (R70, R151, R207): what a turn does when its agent has a step, and what
a turn that neither fetches nor performs leaves unchanged. -/
namespace Sys2Proof.Machine

/-- Either P holds from n on, or Q holds at some first moment up to which P held. -/
theorem always_or_ends (P Q : Nat → Prop) (n : Nat) (h0 : P n)
    (hstep : ∀ j, n ≤ j → (∀ i, n ≤ i → i ≤ j → P i) → P (j + 1) ∨ Q (j + 1)) :
    (∀ j, n ≤ j → P j) ∨ ∃ m, n < m ∧ Q m ∧ ∀ i, n ≤ i → i < m → P i := by
  by_contra! hcon
  obtain ⟨⟨j, hj, hPj⟩, hQ⟩ := hcon
  refine hPj ?_
  clear hPj
  induction j using Nat.strong_induction_on with
  | h j ih =>
    rcases Nat.eq_or_lt_of_le hj with rfl | hlt
    · exact h0
    · have before : ∀ i, n ≤ i → i < j → P i := fun i hi hij => ih i hij hi
      obtain ⟨k, rfl⟩ : ∃ k, j = k + 1 := ⟨j - 1, by omega⟩
      refine (hstep k (by omega) fun i hi hik => before i hi (by omega)).resolve_right fun hq => ?_
      obtain ⟨i, hi, hik, hPi⟩ := hQ (k + 1) hlt hq
      exact hPi (before i hi hik)

variable {turns : Nat → Turn} {run : Nat → State} {n : Nat} {s u : State} {t : Turn}

/-! ### The turns of the agents -/

/-- The state in which the agent of a `RunStep` acts: its one turn is used up, and none is laid down. -/
def State.noTurns (s : State) : State := { s with sched := [] }

@[simp] theorem State.noTurns_wdie : s.noTurns.wdie = s.wdie := rfl
@[simp] theorem State.noTurns_adie : s.noTurns.adie = s.adie := rfl
@[simp] theorem State.noTurns_fault : s.noTurns.fault = s.fault := rfl
@[simp] theorem State.noTurns_serviceDue : s.noTurns.serviceDue = s.serviceDue := rfl
@[simp] theorem State.noTurns_highestPending : s.noTurns.highestPending = s.highestPending := rfl
@[simp] theorem State.noTurns_expireEnabled : s.noTurns.expireEnabled = s.expireEnabled := rfl
@[simp] theorem State.noTurns_convertEnabled : s.noTurns.convertEnabled = s.convertEnabled := rfl

theorem runStep_move (h : RunStep turns run n) : Move (turns n) (run n).noTurns (run (n + 1)) := by
  have hm := step_move _ _ h
  rwa [State.turn_cons _ (turns n) [] rfl, State.passTurn_cons _ (turns n) [] rfl] at hm

theorem step_engine : step { s with sched := [.engine] } = engineTurn s.noTurns := rfl

theorem step_expire : step { s with sched := [.expire] } = countdownTurn s.noTurns := rfl

theorem step_convert (v : Byte) : step { s with sched := [.convert v] } = converterTurn v s.noTurns := rfl

theorem runStep_engine (h : RunStep turns run n) (ht : turns n = .engine) :
    engineTurn (run n).noTurns = .next (run (n + 1)) := by
  rwa [RunStep, ht, step_engine] at h

/-- CDT's turn when it has a step (R119). -/
theorem runStep_expire (h : RunStep turns run n) (ht : turns n = .expire) (hf : (run n).fault = none)
    (he : (run n).expireEnabled = true) : run (n + 1) = (run n).noTurns.expire := by
  rw [RunStep, ht, step_expire] at h
  simpa [countdownTurn, hf, he] using h.symm

/-- ADC's turn when it has a step (R141). -/
theorem runStep_convert (v : Byte) (h : RunStep turns run n) (ht : turns n = .convert v)
    (hf : (run n).fault = none) (he : (run n).convertEnabled = true) :
    run (n + 1) = (run n).noTurns.convert v := by
  rw [RunStep, ht, step_convert] at h
  simpa [converterTurn, hf, he] using h.symm

/-- The engine's turn when a service is due (R176). -/
theorem runStep_service (h : RunStep turns run n) (ht : turns n = .engine)
    (hd : (run n).serviceDue = true) : run (n + 1) = (run n).noTurns.service (run n).highestPending := by
  have he := runStep_engine h ht
  have hf := ((run n).serviceDue_iff.1 hd).1
  simpa [engineTurn, hf, hd] using he.symm

/-- The engine's turn when it performs a micro-operation (R36, R151). -/
theorem engineTurn_perform {m : MicroOp} {rest : List MicroOp} (hf : s.fault = none)
    (hd : s.serviceDue = false) (hh : s.halted = false) (hq : s.mq = m :: rest) :
    engineTurn s = .next ((s.setQueue rest).perform m) := by
  simp [engineTurn, hf, hd, hh, hq]

/-- The engine's turn when it fetches (R151). -/
theorem engineTurn_fetch {w : Word} (hf : s.fault = none) (hd : s.serviceDue = false)
    (hh : s.halted = false) (hq : s.mq = []) (hw : s.prog[s.cp]? = some w) :
    engineTurn s = fetchStep w s := by
  simp [engineTurn, hf, hd, hh, hq, hw]

/-! ### Turns that move no command -/

/-- The engine's turn is one in which it fetches or performs (R151). -/
def MovesCommand (t : Turn) (s : State) : Prop :=
  t = .engine ∧ s.serviceDue = false ∧ s.halted = false

/-- What every turn leaves unchanged in which the engine neither fetches nor performs: the command in progress,
the mask and the enables. A halt may end, and the countdown's flag is set by an expiry alone. -/
structure Idle (t : Turn) (s u : State) : Prop where
  cp     : u.cp = s.cp
  mq     : u.mq = s.mq
  I      : u.I = s.I
  shadow : u.shadow = s.shadow
  hwait  : u.hwait = s.hwait
  wden   : u.wden = s.wden
  wdie   : u.wdie = s.wdie
  adie   : u.adie = s.adie
  fault  : u.fault = s.fault
  prog   : u.prog = s.prog
  cfg    : u.cfg = s.cfg
  halted : u.halted = true → s.halted = true
  wdif   : s.wdif = false → u.wdif = true → t = .expire ∧ s.expireEnabled = true

/-- A service comes with `I` = 1 and no shadow and leaves them so (R176, R178). -/
theorem State.service_idle (hd : s.serviceDue = true) : Idle .engine s (s.service s.highestPending) := by
  obtain ⟨-, hI, hsh, -⟩ := s.serviceDue_iff.1 hd
  cases s.highestPending with
  | wdt => rw [State.service_wdt]; constructor <;> simp +contextual [hI, hsh]
  | adc => rw [State.service_adc]; constructor <;> simp +contextual [hI, hsh]

theorem Move.idle (h : Move t s u) (hr : t ≠ .reset) (hm : ¬ MovesCommand t s) : Idle t s u := by
  cases h with
  | reset ht => exact absurd ht hr
  | expire ht _ he => constructor <;> simp [ht, he]
  | convert v ht _ he => constructor <;> simp +contextual
  | service ht hd => subst ht; exact State.service_idle hd
  | perform m rest ht _ hd hh _ => exact absurd ⟨ht, hd, hh⟩ hm
  | illegal w e ht _ hd hh _ _ _ => exact absurd ⟨ht, hd, hh⟩ hm
  | fetch w i _ ht _ hd hh _ _ _ _ => exact absurd ⟨ht, hd, hh⟩ hm
  | pass _ _ => constructor <;> simp +contextual

theorem runStep_idle (h : RunStep turns run n) (hr : turns n ≠ .reset)
    (hm : ¬ MovesCommand (turns n) (run n)) : Idle (turns n) (run n) (run (n + 1)) := by
  obtain ⟨⟩ := (runStep_move h).idle hr hm
  constructor <;> assumption

/-! ### Halts for a source that runs -/

theorem HaltWait.endedBy_wdt (w : HaltWait) : w.endedBy .wdt = true ↔ w ≠ .adc := by
  cases w <;> decide

theorem HaltWait.endedBy_adc (w : HaltWait) : w.endedBy .adc = true ↔ w ≠ .wdt := by
  cases w <;> decide

/-- The source runs with its interrupt enabled; for ADC, a conversion is in progress or its flag stands, and the
countdown cannot come first. -/
def State.SourceRuns (s : State) : Source → Prop
  | .wdt => s.wden = true ∧ s.wdie = true
  | .adc => s.aden = true ∧ s.adie = true ∧ (s.adsc = true ∨ s.adif = true) ∧ s.wdie = false

/-- The engine is halted, unmasked, and its halt is ended by a source that runs (R163). -/
structure State.HaltedFor (s : State) (src : Source) : Prop where
  noFault  : s.fault = none
  halted   : s.halted = true
  unmasked : s.I = true
  noShadow : s.shadow = false
  endedBy  : s.hwait.endedBy src = true
  runs     : s.SourceRuns src

theorem State.HaltedFor.not_movesCommand {src : Source} (h : s.HaltedFor src) : ¬ MovesCommand t s :=
  fun hm => absurd (h.halted.symm.trans hm.2.2) (by decide)

theorem State.HaltedFor.not_ended {src : Source} (h : s.HaltedFor src) : s.ended = false := by
  simp [State.ended, h.noFault, h.halted]

/-- The halt's source, once pending, is the one a service takes. -/
theorem State.HaltedFor.highestPending {src : Source} (h : s.HaltedFor src) (hp : s.pend src = true) :
    s.highestPending = src := by
  cases src with
  | wdt => simp [State.highestPending, hp]
  | adc =>
    obtain ⟨-, -, -, hie⟩ := h.runs
    simp [State.highestPending, State.pend, hie]

theorem State.HaltedFor.serviceDue {src : Source} (h : s.HaltedFor src) (hp : s.pend src = true) :
    s.serviceDue = true := by
  refine s.serviceDue_iff.2 ⟨h.noFault, h.unmasked, h.noShadow, ?_⟩
  cases src with
  | wdt => exact .inl hp
  | adc => exact .inr hp

theorem State.HaltedFor.service_ends {src : Source} (h : s.HaltedFor src) :
    (s.service src).halted = false := by
  have he := h.endedBy
  cases src with
  | wdt => simp [State.service_wdt, he]
  | adc => simp [State.service_adc, he]

theorem State.HaltedFor.noTurns {src : Source} (h : s.HaltedFor src) : s.noTurns.HaltedFor src :=
  ⟨h.noFault, h.halted, h.unmasked, h.noShadow, h.endedBy, h.runs⟩

/-- A turn either ends the halt or leaves it for the same source, whose pending flag it keeps. -/
theorem State.HaltedFor.move {src : Source} (h : s.HaltedFor src) (hm : Move t s u) (hr : t ≠ .reset)
    (hu : u.halted = true) : u.HaltedFor src ∧ (s.pend src = true → u.pend src = true) := by
  have hidle := hm.idle hr h.not_movesCommand
  suffices hk : u.SourceRuns src ∧ (s.pend src = true → u.pend src = true) from
    ⟨⟨hidle.fault.trans h.noFault, hu, hidle.I.trans h.unmasked, hidle.shadow.trans h.noShadow,
      hidle.hwait ▸ h.endedBy, hk.1⟩, hk.2⟩
  cases hm with
  | reset ht => exact absurd ht hr
  | expire _ _ _ => cases src <;> exact ⟨h.runs, by simp +contextual [State.pend]⟩
  | convert v _ _ _ =>
    cases src with
    | wdt => exact ⟨h.runs, id⟩
    | adc =>
      obtain ⟨hen, hie, -, hw⟩ := h.runs
      exact ⟨⟨hen, hie, .inr rfl, hw⟩, by simp [State.pend]⟩
  | service _ hd =>
    have hother : s.highestPending ≠ src := by
      rintro rfl
      simp [h.service_ends] at hu
    cases src with
    | wdt =>
      have hadc : s.highestPending = .adc := by cases hs : s.highestPending <;> simp_all
      rw [hadc, State.service_adc]
      exact ⟨h.runs, id⟩
    | adc =>
      have hwdt : s.highestPending = .wdt := by cases hs : s.highestPending <;> simp_all
      obtain ⟨-, -, -, hw⟩ := h.runs
      have hp := s.pend_highestPending hd
      simp [hwdt, State.pend, hw] at hp
  | perform m rest _ _ _ hh _ => simp [h.halted] at hh
  | illegal w e _ _ _ hh _ _ _ => simp [h.halted] at hh
  | fetch w i _ _ _ _ hh _ _ _ _ => simp [h.halted] at hh
  | pass _ _ => exact ⟨h.runs, id⟩

/-- In a fair run whose halt never ended, its source would become pending: the countdown expires, or the
conversion completes. -/
theorem haltedFor_pends {src : Source} (hrun : ∀ m, n ≤ m → RunStep turns run m)
    (hfair : WeaklyFair turns run) (hall : ∀ m, n ≤ m → (run m).HaltedFor src) :
    ∃ m, n ≤ m ∧ (run m).pend src = true := by
  obtain ⟨⟨a, ha, hexp⟩, ⟨b, hb, hconv⟩, -⟩ := hfair n
  cases src with
  | wdt =>
    have h := hall a ha
    obtain ⟨hen, hie⟩ := h.runs
    have he : (run a).expireEnabled = true := by simp [State.expireEnabled, hen, h.not_ended]
    refine ⟨a + 1, by omega, ?_⟩
    rw [runStep_expire (hrun a ha) (hexp he) h.noFault he]
    simp [State.pend, hie]
  | adc =>
    have h := hall b hb
    obtain ⟨hen, hie, hbusy, -⟩ := h.runs
    cases hbusy with
    | inr hif => exact ⟨b, hb, by simp [State.pend, hif, hie]⟩
    | inl hsc =>
      have he : (run b).convertEnabled = true := by simp [State.convertEnabled, hsc, hen, h.not_ended]
      obtain ⟨v, hv⟩ := hconv he
      refine ⟨b + 1, by omega, ?_⟩
      rw [runStep_convert v (hrun b hb) hv h.noFault he]
      simp [State.pend, hie]

/-- No halt for a running source lasts for ever in a fair run (R163). -/
theorem haltedFor_not_forever {src : Source} (hrun : ∀ m, n ≤ m → RunStep turns run m)
    (hreset : ∀ m, n ≤ m → turns m ≠ .reset) (hfair : WeaklyFair turns run)
    (hall : ∀ m, n ≤ m → (run m).HaltedFor src) : False := by
  obtain ⟨a, ha, hp⟩ := haltedFor_pends hrun hfair hall
  have hpend : ∀ m, a ≤ m → (run m).pend src = true := by
    intro m hm
    induction m, hm using Nat.le_induction with
    | base => exact hp
    | succ m hm ih =>
      exact ((hall m (ha.trans hm)).noTurns.move (runStep_move (hrun m (ha.trans hm))) (hreset m (ha.trans hm))
        (hall (m + 1) (by omega)).halted).2 ih
  obtain ⟨-, -, b, hb, heng⟩ := hfair a
  have h := hall b (ha.trans hb)
  have hd := h.serviceDue (hpend b hb)
  have hnext := runStep_service (hrun b (ha.trans hb)) (heng (by simp [State.engineEnabled, hd])) hd
  rw [h.highestPending (hpend b hb)] at hnext
  have hend := (hall (b + 1) (by omega)).halted
  rw [hnext, h.noTurns.service_ends] at hend
  cases hend

/-- A halt for a running source ends, with `CP` unchanged and no fault (R163). -/
theorem haltedFor_ends {src : Source}
    (hsteps : ∀ m, n ≤ m → HaltedUpTo run n m → RunStep turns run m ∧ turns m ≠ .reset)
    (hfair : (∀ m, n ≤ m → (run m).halted = true) → WeaklyFair turns run) (h : (run n).HaltedFor src) :
    ∃ m, n < m ∧ HaltedUpTo run n (m - 1) ∧ (run m).halted = false ∧ (run m).cp = (run n).cp ∧
      (run m).fault = none := by
  have hall := always_or_ends (fun j => (run j).HaltedFor src ∧ (run j).cp = (run n).cp)
    (fun j => (run j).halted = false ∧ (run j).cp = (run n).cp ∧ (run j).fault = none) n ⟨h, rfl⟩ (by
      intro j hj hbefore
      obtain ⟨hs, hr⟩ := hsteps j hj fun i hi hij => (hbefore i hi hij).1.halted
      obtain ⟨hh, hcp⟩ := hbefore j hj le_rfl
      have hidle := runStep_idle hs hr hh.not_movesCommand
      have hcp' := hidle.cp.trans hcp
      cases hu : (run (j + 1)).halted with
      | false => exact .inr ⟨rfl, hcp', hidle.fault.trans hh.noFault⟩
      | true => exact .inl ⟨(hh.noTurns.move (runStep_move hs) hr hu).1, hcp'⟩)
  rcases hall with hall | ⟨m, hm, hend, hbefore⟩
  · have hhalt : ∀ m, n ≤ m → (run m).halted = true := fun m hm => (hall m hm).1.halted
    have hs : ∀ m, n ≤ m → RunStep turns run m ∧ turns m ≠ .reset := fun m hm =>
      hsteps m hm fun i hi _ => hhalt i hi
    exact (haltedFor_not_forever (fun m hm => (hs m hm).1) (fun m hm => (hs m hm).2) (hfair hhalt)
      fun m hm => (hall m hm).1).elim
  · exact ⟨m, hm, fun i hi him => (hbefore i hi (by omega)).1.halted, hend⟩

end Sys2Proof.Machine
end
section
/-! PROOF. A NAP in a fair run that keeps R117's period (R126, R128, R133): what holds at each of its steps, and
that it completes. -/
namespace Sys2Proof.Machine

variable {turns : Nat → Turn} {run : Nat → State} {n j : Nat} {s u : State} {t : Ticks}

/-! ### The queue -/

/-- The rest of a NAP's queue at the boundary of two stages (R126, R128). -/
inductive StagesLeft : List MicroOp → Prop where
  | last : StagesLeft [.uDisarm, .uCli, .uDone]
  | stage (k : Stage) {q : List MicroOp} (h : StagesLeft q) : StagesLeft (stageMops k ++ q)

/-- The rest of a NAP's queue, by its first micro-operation (R126, R128). -/
inductive NapRest : List MicroOp → Prop where
  | setRem (v : Ticks) {q : List MicroOp} (h : StagesLeft q) : NapRest (.uSetRem v :: q)
  | arm (k : Stage) {q : List MicroOp} (h : StagesLeft q) :
      NapRest (.uArm k :: .uSei :: .uHaltUntil .wdt :: .uCli :: .uSub k :: q)
  | sei (k : Stage) {q : List MicroOp} (h : StagesLeft q) :
      NapRest (.uSei :: .uHaltUntil .wdt :: .uCli :: .uSub k :: q)
  | halt (k : Stage) {q : List MicroOp} (h : StagesLeft q) :
      NapRest (.uHaltUntil .wdt :: .uCli :: .uSub k :: q)
  | wake (k : Stage) {q : List MicroOp} (h : StagesLeft q) : NapRest (.uCli :: .uSub k :: q)
  | sub (k : Stage) {q : List MicroOp} (h : StagesLeft q) : NapRest (.uSub k :: q)
  | disarm : NapRest [.uDisarm, .uCli, .uDone]
  | mask : NapRest [.uCli, .uDone]
  | done : NapRest [.uDone]

theorem StagesLeft.napRest {q : List MicroOp} (h : StagesLeft q) : NapRest q := by
  cases h with
  | last => exact .disarm
  | stage k h => exact .arm k h

theorem StagesLeft.not_stageArmed {q : List MicroOp} (h : StagesLeft q) : ¬ stageArmed q := by
  cases h <;> simp [stageArmed, stageMops]

theorem NapRest.ne_nil {q : List MicroOp} (h : NapRest q) : q ≠ [] := by
  cases h <;> simp

theorem stagesLeft_of_ladder (ks : List Stage) :
    StagesLeft (ks.flatMap stageMops ++ [.uDisarm, .uCli, .uDone]) := by
  induction ks with
  | nil => exact .last
  | cons k ks ih =>
    rw [List.flatMap_cons, List.append_assoc]
    exact .stage k ih

theorem napQueue_napRest (kmax : MaxStage) (t : Ticks) : NapRest (napQueue kmax t) :=
  .setRem t (stagesLeft_of_ladder _)

/-! ### The states of a NAP -/

/-- A state of a NAP t, from its fetch to its `uDone`. -/
structure NapState (t : Ticks) (s : State) : Prop where
  noFault  : s.fault = none
  /-- The converter's interrupt is off outside SAMPLE, so that every service is the countdown's. -/
  noAdc    : s.adie = false
  queue    : (s.mq = [] ∧ s.prog[s.cp]? = some (encode (.nap t))) ∨ NapRest s.mq
  armed    : stageArmed s.mq → s.wden = true ∧ s.wdie = true
  unmasked : ∀ q, s.mq = .uHaltUntil .wdt :: q → s.I = true
  halt     : s.halted = true → (∃ q, s.mq = .uCli :: q) ∧ s.HaltedFor .wdt

/-- The steps of a NAP that are left: micro-operations, and the fetch. -/
def State.napWork (t : Ticks) (s : State) : Nat :=
  if s.mq = [] then (napQueue s.cfg.kmax t).length + 1 else s.mq.length

/-- The command that was in progress in s has completed in u. -/
structure Completes (s u : State) : Prop where
  cp      : u.cp = s.cp + 1
  mq      : u.mq = []
  running : u.halted = false
  noFault : u.fault = none

/-- The NAP in progress has come one step further from s to u; a stage is armed by its `uArm` alone, which
clears the flag. -/
structure NapAdvances (t : Ticks) (s u : State) : Prop where
  state : NapState t u
  cp    : u.cp = s.cp
  work  : u.napWork t < s.napWork t
  sei   : ∀ q, u.mq = .uSei :: .uHaltUntil .wdt :: q → u.wdif = false ∧ ∃ k q', s.mq = .uArm k :: q'

theorem NapState.not_ended (h : NapState t s) : s.ended = false := by
  rcases h.queue with ⟨hq, hw⟩ | hr
  · obtain ⟨hlt, -⟩ := List.getElem?_eq_some_iff.1 hw
    simp [State.ended, h.noFault, Nat.not_le.2 hlt]
  · simp [State.ended, h.noFault, hr.ne_nil]

theorem NapState.engineEnabled (h : NapState t s) (hh : s.halted = false) : s.engineEnabled = true := by
  simp [State.engineEnabled, hh, h.not_ended]

theorem NapState.running_of_sei (h : NapState t s) {q : List MicroOp} (hq : s.mq = .uSei :: q) :
    s.halted = false := by
  by_contra hh
  obtain ⟨⟨q', hq'⟩, -⟩ := h.halt (by simpa using hh)
  simp [hq] at hq'

/-- A service in a NAP is the countdown's. -/
theorem NapState.due_wdt (h : NapState t s) (hd : s.serviceDue = true) :
    s.wdif = true ∧ s.highestPending = .wdt := by
  have hp := s.pend_highestPending hd
  cases hs : s.highestPending with
  | wdt =>
    rw [hs, State.pend, Bool.and_eq_true] at hp
    exact ⟨hp.1, rfl⟩
  | adc => simp [hs, State.pend, h.noAdc] at hp

theorem NapState.not_due_of_wdif (h : NapState t s) (hf : s.wdif = false) : s.serviceDue = false := by
  by_contra hd
  exact absurd (hf.symm.trans (h.due_wdt (by simpa using hd)).1) (by decide)

theorem NapState.noTurns (h : NapState t s) : NapState t s.noTurns :=
  ⟨h.noFault, h.noAdc, h.queue, h.armed, h.unmasked, fun hh => ⟨(h.halt hh).1, (h.halt hh).2.noTurns⟩⟩

theorem NapState.of_idle {a : Turn} (h : NapState t s) (hi : Idle a s u) : NapState t u where
  noFault := hi.fault.trans h.noFault
  noAdc := hi.adie.trans h.noAdc
  queue := by rw [hi.mq, hi.prog, hi.cp]; exact h.queue
  armed := by rw [hi.mq, hi.wden, hi.wdie]; exact h.armed
  unmasked := by rw [hi.mq, hi.I]; exact h.unmasked
  halt hu := by
    obtain ⟨hq, hf, -, hI, hsh, he, hen, hie⟩ := h.halt (hi.halted hu)
    exact ⟨by rwa [hi.mq], hi.fault.trans hf, hu, hi.I.trans hI, hi.shadow.trans hsh, hi.hwait ▸ he,
      hi.wden.trans hen, hi.wdie.trans hie⟩

theorem napWork_of_idle {a : Turn} (hi : Idle a s u) : u.napWork t = s.napWork t := by
  simp [State.napWork, hi.mq, hi.cfg]

theorem napWork_lt {m : MicroOp} (hq : s.mq = m :: u.mq) (hne : u.mq ≠ []) : u.napWork t < s.napWork t := by
  simp [State.napWork, hq, hne]

/-- A NAP's state outside its halt, and not between `uArm` and the halt. -/
theorem napState_between (hf : u.fault = none) (ha : u.adie = false) (hh : u.halted = false)
    (hr : NapRest u.mq) (hs : ¬ stageArmed u.mq) : NapState t u where
  noFault := hf
  noAdc := ha
  queue := .inr hr
  armed h := absurd h hs
  unmasked q hq := absurd (.inr ⟨q, hq⟩) hs
  halt h := absurd (hh.symm.trans h) (by decide)

/-! ### The steps of a NAP -/

theorem decode_encode_nap (kmax : MaxStage) (t : Ticks) : decode kmax (encode (.nap t)) = .ok (.nap t) := by
  have hop : opcodeField (encode (.nap t)) = 0x0A#8 := opcodeField_encode _
  have hres : (encode (.nap t)).extractLsb' 16 8 = 0#8 := by
    rw [extractLsb'_encode _ _ _ (by decide)]
    apply BitVec.eq_of_getLsbD_eq
    intro i hi
    rw [BitVec.getLsbD_extractLsb', getLsbD_fieldBits_nap]
    simp
  have hfield : (encode (.nap t)).extractLsb' 0 16 = t := by
    rw [extractLsb'_encode _ _ _ (by decide)]
    apply BitVec.eq_of_getLsbD_eq
    intro i hi
    rw [BitVec.getLsbD_extractLsb', getLsbD_fieldBits_nap]
    simp [hi]
  simp [decode, hop, decodeT, hres, hfield]

/-- The fetch step of a NAP queues its micro-operations (R128). -/
theorem fetchStep_nap (t : Ticks) (s : State) :
    fetchStep (encode (.nap t)) s = .next ((s.setQueue (napQueue s.cfg.kmax t)).setShadow false) := by
  simp [fetchStep, decode_encode_nap, exec, execNap]

theorem napAdvances_fetch (h : NapState t s) (hh : s.halted = false) (hq : s.mq = []) :
    NapAdvances t s ((s.setQueue (napQueue s.cfg.kmax t)).setShadow false) where
  state := napState_between h.noFault h.noAdc hh (napQueue_napRest _ t) (by simp [stageArmed, napQueue])
  cp := rfl
  work := by simp [State.napWork, hq, (napQueue_napRest s.cfg.kmax t).ne_nil]
  sei := by simp [napQueue]

/-- A micro-operation that leaves neither a stage to halt for nor a halt. -/
theorem napAdvances_between {m : MicroOp} {rest : List MicroOp} (hq : s.mq = m :: rest) (hm : u.mq = rest)
    (hcp : u.cp = s.cp) (hf : u.fault = none) (ha : u.adie = false) (hh : u.halted = false)
    (hr : NapRest rest) (hs : ¬ stageArmed rest) : NapAdvances t s u := by
  subst hm
  exact ⟨napState_between hf ha hh hr hs, hcp, napWork_lt hq hr.ne_nil,
    fun q hu => absurd (.inl ⟨q, hu⟩) hs⟩

/-- Each micro-operation of a NAP leaves a state of the NAP, but `uDone`, which completes it. -/
theorem NapState.perform {m : MicroOp} {rest : List MicroOp} (h : NapState t s) (hh : s.halted = false)
    (hq : s.mq = m :: rest) :
    Completes s ((s.setQueue rest).perform m) ∨ NapAdvances t s ((s.setQueue rest).perform m) := by
  have hr : NapRest (m :: rest) := by
    rcases h.queue with ⟨hnil, -⟩ | hr
    · simp [hnil] at hq
    · exact hq ▸ hr
  cases hr with
  | setRem v hs => exact .inr (napAdvances_between hq rfl rfl h.noFault h.noAdc hh hs.napRest hs.not_stageArmed)
  | @arm k q hs =>
    have hu : NapState t ((s.setQueue (.uSei :: .uHaltUntil .wdt :: .uCli :: .uSub k :: q)).perform (.uArm k)) :=
      ⟨h.noFault, h.noAdc, .inr (.sei k hs), fun _ => ⟨rfl, rfl⟩, by simp [State.perform],
        by simp [State.perform, hh]⟩
    exact .inr ⟨hu, rfl, napWork_lt hq (List.cons_ne_nil _ _), fun _ _ => ⟨rfl, k, _, hq⟩⟩
  | @sei k q hs =>
    have hu : NapState t ((s.setQueue (.uHaltUntil .wdt :: .uCli :: .uSub k :: q)).perform .uSei) :=
      ⟨h.noFault, h.noAdc, .inr (.halt k hs), fun _ => h.armed (.inl ⟨_, hq⟩), fun _ _ => rfl,
        by simp [State.perform, hh]⟩
    exact .inr ⟨hu, rfl, napWork_lt hq (List.cons_ne_nil _ _), by simp [State.perform]⟩
  | @halt k q hs =>
    have hu : NapState t ((s.setQueue (.uCli :: .uSub k :: q)).perform (.uHaltUntil .wdt)) :=
      ⟨h.noFault, h.noAdc, .inr (.wake k hs), by simp [State.perform, stageArmed], by simp [State.perform],
        fun _ => ⟨⟨_, rfl⟩, h.noFault, rfl, h.unmasked _ hq, rfl, rfl, h.armed (.inr ⟨_, hq⟩)⟩⟩
    exact .inr ⟨hu, rfl, napWork_lt hq (List.cons_ne_nil _ _), by simp [State.perform]⟩
  | wake k hs =>
    exact .inr (napAdvances_between hq rfl rfl h.noFault h.noAdc hh (.sub k hs) (by simp [stageArmed]))
  | sub k hs => exact .inr (napAdvances_between hq rfl rfl h.noFault h.noAdc hh hs.napRest hs.not_stageArmed)
  | disarm => exact .inr (napAdvances_between hq rfl rfl h.noFault h.noAdc hh .mask (by simp [stageArmed]))
  | mask => exact .inr (napAdvances_between hq rfl rfl h.noFault h.noAdc hh .done (by simp [stageArmed]))
  | done => exact .inl ⟨rfl, rfl, hh, h.noFault⟩

/-- A turn in which the engine fetches or performs brings the NAP one step further or completes it. -/
theorem NapState.runStep (h : NapState t (run j)) (hs : RunStep turns run j)
    (hm : MovesCommand (turns j) (run j)) :
    Completes (run j) (run (j + 1)) ∨ NapAdvances t (run j) (run (j + 1)) := by
  obtain ⟨ht, hd, hh⟩ := hm
  have he := runStep_engine hs ht
  suffices hk : Completes (run j).noTurns (run (j + 1)) ∨ NapAdvances t (run j).noTurns (run (j + 1)) from
    hk.imp (fun ⟨hcp, hq, hu, hf⟩ => ⟨hcp, hq, hu, hf⟩)
      (fun ⟨hst, hcp, hw, hsei⟩ => ⟨hst, hcp, hw, hsei⟩)
  cases hq : (run j).mq with
  | cons m rest =>
    rw [engineTurn_perform h.noTurns.noFault hd hh hq] at he
    rw [← Host.Outcome.next.inj he]
    exact h.noTurns.perform hh hq
  | nil =>
    obtain ⟨-, hw⟩ := h.queue.resolve_right fun hr => hr.ne_nil hq
    rw [engineTurn_fetch h.noTurns.noFault hd hh hq hw, fetchStep_nap] at he
    rw [← Host.Outcome.next.inj he]
    exact .inr (napAdvances_fetch h.noTurns hh hq)

/-! ### The NAP in a run -/

/-- The run has begun a period of the countdown at some step, since which the engine has had no turn. -/
def PeriodJustBegun (turns : Nat → Turn) (run : Nat → State) (j : Nat) : Prop :=
  ∃ a, a < j ∧ PeriodBegins turns run a ∧ ∀ i, a < i → i < j → turns i ≠ .engine

/-- What holds at every step j of a NAP fetched at the n-th. -/
structure NapAt (turns : Nat → Turn) (run : Nat → State) (n : Nat) (t : Ticks) (j : Nat) : Prop where
  state : NapState t (run j)
  cp    : (run j).cp = (run n).cp
  sei   : ∀ q, (run j).mq = .uSei :: .uHaltUntil .wdt :: q →
    (run j).wdif = false ∧ PeriodJustBegun turns run j

/-- Where the period is kept, no expiry comes between a stage's `uArm` and its `uSei` (R117, R126). -/
theorem NapAt.no_expiry_before_sei (h : NapAt turns run n t j) (hp : PeriodKept turns run j)
    (ht : turns j = .expire) (q : List MicroOp) : (run j).mq ≠ .uSei :: .uHaltUntil .wdt :: q := by
  intro hq
  obtain ⟨-, a, ha, hbegin, hquiet⟩ := h.sei q hq
  have hen : (run j).expireEnabled = true := by
    simp [State.expireEnabled, h.state.not_ended, (h.state.armed (.inl ⟨q, hq⟩)).1]
  obtain ⟨i, _, hai, hik, hkj, hi, -⟩ :=
    hp ht hen (h.state.engineEnabled (h.state.running_of_sei hq)) a ha hbegin
  exact hquiet i hai (hik.trans hkj) hi

/-- A turn that moves no command keeps what holds of the NAP. -/
theorem NapAt.of_idle (h : NapAt turns run n t j) (hp : PeriodKept turns run j)
    (hm : ¬ MovesCommand (turns j) (run j)) (hi : Idle (turns j) (run j) (run (j + 1))) :
    NapAt turns run n t (j + 1) where
  state := h.state.of_idle hi
  cp := hi.cp.trans h.cp
  sei q hq := by
    rw [hi.mq] at hq
    obtain ⟨hf, a, ha, hbegin, hquiet⟩ := h.sei q hq
    have hturn : turns j ≠ .engine := fun ht =>
      hm ⟨ht, h.state.not_due_of_wdif hf, h.state.running_of_sei hq⟩
    refine ⟨?_, a, by omega, hbegin, fun i hai hij => ?_⟩
    · by_contra hf'
      exact h.no_expiry_before_sei hp (hi.wdif hf (by simpa using hf')).1 q hq
    · rcases Nat.lt_succ_iff_lt_or_eq.1 hij with hij | rfl
      · exact hquiet i hai hij
      · exact hturn

/-- One step of a NAP keeps what holds of it, or completes it. -/
theorem NapAt.next (h : NapAt turns run n t j) (hs : RunStep turns run j) (hr : turns j ≠ .reset)
    (hp : PeriodKept turns run j) :
    NapAt turns run n t (j + 1) ∨ Completes (run n) (run (j + 1)) := by
  by_cases hm : MovesCommand (turns j) (run j)
  · rcases h.state.runStep hs hm with ⟨hcp, hq, hh, hf⟩ | ⟨hst, hcp, -, hsei⟩
    · exact .inr ⟨by rw [hcp, h.cp], hq, hh, hf⟩
    · refine .inl ⟨hst, hcp.trans h.cp, fun q hq => ?_⟩
      obtain ⟨hf, k, q', harm⟩ := hsei q hq
      exact ⟨hf, j, Nat.lt_succ_self j, .inr ⟨hm.1, hm.2.1, hm.2.2, .inl ⟨k, q', harm⟩⟩,
        fun i hji hij => by omega⟩
  · exact .inl (h.of_idle hp hm (runStep_idle hs hr hm))

/-! ### The NAP completes -/

/-- Where the engine has a turn after the i-th, there is a first such turn. -/
theorem next_engine_turn {i : Nat} (h : ∃ k, i < k ∧ turns k = .engine) :
    ∃ k, i < k ∧ turns k = .engine ∧ ∀ l, i < l → l < k → turns l ≠ .engine := by
  classical
  exact ⟨Nat.find h, (Nat.find_spec h).1, (Nat.find_spec h).2,
    fun l hil hl ht => Nat.find_min h hl ⟨hil, ht⟩⟩

/-- A flag that is down and up again later has been set by an expiry between (R119). -/
theorem expiry_of_flag_set {a b : Nat} (hab : a ≤ b)
    (hidle : ∀ i, a ≤ i → Idle (turns i) (run i) (run (i + 1))) (ha : (run a).wdif = false)
    (hb : (run b).wdif = true) :
    ∃ e, a ≤ e ∧ e < b ∧ turns e = .expire ∧ (run e).expireEnabled = true := by
  induction b, hab using Nat.le_induction with
  | base => simp [ha] at hb
  | succ b hab ih =>
    cases hf : (run b).wdif with
    | true =>
      obtain ⟨e, hae, heb, he⟩ := ih hf
      exact ⟨e, hae, by omega, he⟩
    | false => exact ⟨b, hab, Nat.lt_succ_self b, (hidle b hab).wdif hf hb⟩

/-- The engine has turns for ever from the j-th step on, all of which serve the countdown (log 18). -/
structure OnlyServes (turns : Nat → Turn) (run : Nat → State) (j : Nat) : Prop where
  idle   : ∀ i, j ≤ i → Idle (turns i) (run i) (run (i + 1))
  serves : ∀ i, j ≤ i → turns i = .engine → (run i).wdif = true ∧ (run (i + 1)).wdif = false
  turn   : ∀ i, j ≤ i → ∃ k, i < k ∧ turns k = .engine

/-- Between an engine turn and the next the countdown has expired. -/
theorem OnlyServes.expiry (h : OnlyServes turns run j) {i : Nat} (hi : j ≤ i) (ht : turns i = .engine) :
    ∃ e k, i < e ∧ e < k ∧ turns e = .expire ∧ (run e).expireEnabled = true ∧ turns k = .engine ∧
      ∀ l, i < l → l < k → turns l ≠ .engine := by
  obtain ⟨k, hik, hk, hfirst⟩ := next_engine_turn (h.turn i hi)
  obtain ⟨e, hie, hek, he, hen⟩ := expiry_of_flag_set (by omega : i + 1 ≤ k)
    (fun l hl => h.idle l (by omega)) (h.serves i hi ht).2 (h.serves k (by omega) hk).1
  exact ⟨e, k, by omega, hek, he, hen, hk, hfirst⟩

/-- An engine that has a step at every turn does not serve the countdown for ever where the period is kept: two
expiries have two engine turns between them (R117; log 30). -/
theorem OnlyServes.period_not_kept (h : OnlyServes turns run j)
    (hen : ∀ i, j ≤ i → (run i).engineEnabled = true) : ¬ ∀ i, j ≤ i → PeriodKept turns run i := by
  intro hp
  obtain ⟨i, hji, hi⟩ := h.turn j le_rfl
  obtain ⟨e, k, hie, hek, he, heen, hk, hquiet⟩ := h.expiry (by omega) hi
  obtain ⟨e', k', hke, hek', he', heen', -, hquiet'⟩ := h.expiry (by omega : j ≤ k) hk
  obtain ⟨a, b, hea, hab, hbe, ha, hb⟩ :=
    hp e' (by omega) he' heen' (hen e' (by omega)) e (by omega) (.inl ⟨he, heen⟩)
  have hka : k ≤ a := by
    by_contra hlt
    exact hquiet a (by omega) (by omega) ha
  exact hquiet' b (by omega) (by omega) hb

section Forever

variable (hnap : ∀ j, n ≤ j → NapAt turns run n t j)
  (hsteps : ∀ j, n ≤ j → RunStep turns run j ∧ turns j ≠ .reset ∧ PeriodKept turns run j)
include hnap hsteps

/-- A NAP that never completed would come closer to its end with every step that fetches or performs, and no
further from it with any other. -/
theorem napWork_step (hj : n ≤ j) : (run (j + 1)).napWork t ≤ (run j).napWork t ∧
    (MovesCommand (turns j) (run j) → (run (j + 1)).napWork t < (run j).napWork t) := by
  obtain ⟨hs, hr, -⟩ := hsteps j hj
  by_cases hm : MovesCommand (turns j) (run j)
  · rcases (hnap j hj).state.runStep hs hm with hend | hadv
    · have hcp := hend.cp
      rw [(hnap (j + 1) (by omega)).cp, (hnap j hj).cp] at hcp
      omega
    · exact ⟨hadv.work.le, fun _ => hadv.work⟩
  · exact ⟨(napWork_of_idle (runStep_idle hs hr hm)).le, fun h => absurd h hm⟩

variable (hfair : WeaklyFair turns run)
include hfair

/-- A NAP that never completed would not stay in a halt (R163). -/
theorem nap_runs_again (hj : n ≤ j) : ∃ i, j ≤ i ∧ (run i).halted = false := by
  by_contra! hall
  exact haltedFor_not_forever (src := .wdt) (n := j) (fun m hm => (hsteps m (hj.trans hm)).1)
    (fun m hm => (hsteps m (hj.trans hm)).2.1) hfair
    fun m hm => ((hnap m (hj.trans hm)).state.halt (by simpa using hall m hm)).2

/-- Nor would the engine serve the countdown for ever: it comes to fetch or perform. -/
theorem nap_moves (hj : n ≤ j) : ∃ i, j ≤ i ∧ MovesCommand (turns i) (run i) := by
  by_contra! hno
  obtain ⟨a, hja, ha⟩ := nap_runs_again hnap hsteps hfair hj
  have hidle : ∀ i, a ≤ i → Idle (turns i) (run i) (run (i + 1)) := fun i hi =>
    runStep_idle (hsteps i (by omega)).1 (hsteps i (by omega)).2.1 (hno i (by omega))
  have hrunning : ∀ i, a ≤ i → (run i).halted = false := by
    intro i hi
    induction i, hi using Nat.le_induction with
    | base => exact ha
    | succ i hi ih => simpa [ih] using (hidle i hi).halted
  have hen : ∀ i, a ≤ i → (run i).engineEnabled = true := fun i hi =>
    (hnap i (by omega)).state.engineEnabled (hrunning i hi)
  have hserves : OnlyServes turns run a := by
    refine ⟨hidle, fun i hi ht => ?_, fun i hi => ?_⟩
    · have hd : (run i).serviceDue = true := by
        by_contra hd
        exact hno i (by omega) ⟨ht, by simpa using hd, hrunning i hi⟩
      obtain ⟨hf, hsrc⟩ := (hnap i (by omega)).state.due_wdt hd
      rw [runStep_service (hsteps i (by omega)).1 ht hd, hsrc, State.service_wdt]
      exact ⟨hf, rfl⟩
    · obtain ⟨-, -, k, hk, heng⟩ := hfair (i + 1)
      exact ⟨k, by omega, heng (hen k (by omega))⟩
  exact hserves.period_not_kept hen fun i hi => (hsteps i (by omega)).2.2

/-- A NAP does not last for ever (R133). -/
theorem nap_not_forever : False := by
  have hle : ∀ a b, n ≤ a → a ≤ b → (run b).napWork t ≤ (run a).napWork t := by
    intro a b ha hab
    induction b, hab using Nat.le_induction with
    | base => exact le_rfl
    | succ b hab ih => exact (napWork_step hnap hsteps (ha.trans hab)).1.trans ih
  have hlast : ∀ w j, n ≤ j → (run j).napWork t = w → False := by
    intro w
    induction w using Nat.strong_induction_on with
    | h w ih =>
      rintro j hj rfl
      obtain ⟨i, hji, hm⟩ := nap_moves hnap hsteps hfair hj
      have hlt := (napWork_step hnap hsteps (hj.trans hji)).2 hm
      exact ih _ (hlt.trans_le (hle j i hj hji)) (i + 1) (by omega) rfl
  exact hlast _ n le_rfl rfl

end Forever

/-- At its fetch a NAP is in one of its states: the invariant has the converter off, no command being in
progress. -/
theorem napState_of_fetching (hi : s.Inv) (hf : s.Fetching (encode (.nap t))) : NapState t s where
  noFault := hf.noFault
  noAdc := by
    rw [hi.converterEnabled, ← Bool.not_eq_true, hi.frontEndInSample]
    simp [hf.idle]
  queue := .inl ⟨hf.idle, hf.word⟩
  armed := by simp [stageArmed, hf.idle]
  unmasked := by simp [hf.idle]
  halt := by simp [hf.running]

/-- A NAP completes in every run that is fair and keeps the period while it lasts, and no expiry of it comes
between a stage's `uArm` and its `uSei` (R126, R133). -/
theorem nap_completes (hstart : NapState t (run n)) (hidle : (run n).mq = [])
    (hsteps : ∀ m, n ≤ m → (∀ j, n ≤ j → j ≤ m → (run j).cp = (run n).cp) →
      RunStep turns run m ∧ turns m ≠ .reset ∧ PeriodKept turns run m)
    (hfair : (∀ m, n ≤ m → (run m).cp = (run n).cp) → WeaklyFair turns run) :
    ∃ m, n < m ∧ Completes (run n) (run m) ∧ ∀ j, n ≤ j → j < m → (run j).cp = (run n).cp ∧
      (turns j = .expire → ∀ q, (run j).mq ≠ .uSei :: .uHaltUntil .wdt :: q) := by
  have hall := always_or_ends (NapAt turns run n t) (fun j => Completes (run n) (run j)) n
    ⟨hstart, rfl, by simp [hidle]⟩ (by
      intro j hj hbefore
      obtain ⟨hs, hr, hp⟩ := hsteps j hj fun i hi hij => (hbefore i hi hij).cp
      exact (hbefore j hj le_rfl).next hs hr hp)
  rcases hall with hall | ⟨m, hm, hend, hbefore⟩
  · have hcp : ∀ m, n ≤ m → (run m).cp = (run n).cp := fun m hm => (hall m hm).cp
    exact (nap_not_forever hall (fun m hm => hsteps m hm fun i hi _ => hcp i hi) (hfair hcp)).elim
  · refine ⟨m, hm, hend, fun j hj hjm => ⟨(hbefore j hj hjm).cp, ?_⟩⟩
    obtain ⟨-, -, hp⟩ := hsteps j hj fun i hi hij => (hbefore i hi (by omega)).cp
    exact (hbefore j hj hjm).no_expiry_before_sei hp

/-- Settles O44: a halt for a running source ends (`haltedFor_ends`), and so does a NAP (`nap_completes`). -/
theorem fairRunEndsHalt : Obligations.FairRunEndsHalt := by
  refine ⟨fun turns run n hsteps hfair hf hh hI hsh hruns => ?_,
    fun turns run n t hinv hfetch hsteps hfair => ?_⟩
  · rcases hruns with ⟨hw, hruns⟩ | ⟨hw, hruns⟩
    · exact haltedFor_ends (src := .wdt) hsteps hfair ⟨hf, hh, hI, hsh, (HaltWait.endedBy_wdt _).2 hw, hruns⟩
    · exact haltedFor_ends (src := .adc) hsteps hfair ⟨hf, hh, hI, hsh, (HaltWait.endedBy_adc _).2 hw, hruns⟩
  · obtain ⟨m, hm, ⟨hcp, hq, hrunning, hnf⟩, hbefore⟩ :=
      nap_completes (napState_of_fetching hinv hfetch) hfetch.idle hsteps hfair
    exact ⟨m, hm, hcp, hq, hrunning, hnf, hbefore⟩

end Sys2Proof.Machine
end
section
/-! PROOF. A word that decodes is the word of its command (R86): the opcode and each format's fields, read back
from the slices that the decoder takes (R78 to R83). -/
namespace Sys2Proof

/-- A slice that is 0 has only bits that are 0. -/
theorem getLsbD_of_extractLsb'_eq_zero {w : Word} {lo n : Nat} (h : w.extractLsb' lo n = 0#n) (j : Nat)
    (hlo : lo ≤ j) (hj : j < lo + n) : w.getLsbD j = false := by
  have hbit := congrArg (·.getLsbD (j - lo)) h
  simpa [BitVec.getLsbD_extractLsb', show j - lo < n by omega, Nat.add_sub_of_le hlo] using hbit

/-- A word is the word of a command whose opcode and field bits it bears (R77). -/
theorem encode_eq_of_fields {i : Instr} {w : Word} (hop : (opcodeField w).toNat = i.opcode.toNat)
    (hbits : ∀ j < 24, i.fieldBits.getLsbD j = w.getLsbD j) : encode i = w := by
  apply BitVec.eq_of_getLsbD_eq
  intro j hj
  rw [getLsbD_encode]
  split
  · exact hbits j ‹_›
  · rw [← BitVec.eq_of_toNat_eq hop, opcodeField, BitVec.getLsbD_extractLsb']
    simp [show j - 24 < 8 by omega, show 24 + (j - 24) = j by omega]

theorem encode_of_decodeN {i i' : Instr} {w : Word} (h : decodeN i w = .ok i')
    (hop : (opcodeField w).toNat = i.opcode.toNat) (hi : i.fieldBits = 0#24) : encode i' = w := by
  unfold decodeN at h
  split at h
  · cases h
  · rename_i hz
    cases h
    refine encode_eq_of_fields hop fun j hj => ?_
    rw [hi, getLsbD_of_extractLsb'_eq_zero (not_not.1 hz) j (by omega) (by omega)]
    simp

theorem encode_of_decodeC {i : Instr} {w : Word} (hop : (opcodeField w).toNat = 2)
    (h : decodeC w = .ok i) : encode i = w := by
  unfold decodeC at h
  split at h
  · cases h
  · rename_i hz
    obtain ⟨hhigh, hmid⟩ := not_or.1 hz
    split at h
    · cases h
    · cases h
      refine encode_eq_of_fields hop fun j hj => ?_
      rw [getLsbD_fieldBits_setc]
      by_cases h8 : j < 8
      · simp [h8]
      · by_cases h16 : j < 16
        · simp [h8, h16, getLsbD_of_extractLsb'_eq_zero (not_not.1 hmid) j (by omega) (by omega)]
        · by_cases h18 : j < 18
          · simp [h8, h16, show j - 16 < 2 by omega, show 16 + (j - 16) = j by omega]
          · simp [h8, h16, show ¬ j - 16 < 2 by omega,
              getLsbD_of_extractLsb'_eq_zero (not_not.1 hhigh) j (by omega) (by omega)]

theorem encode_of_decodeP {i : Instr} {w : Word} (hop : (opcodeField w).toNat = 3)
    (h : decodeP w = .ok i) : encode i = w := by
  cases h
  refine encode_eq_of_fields hop fun j hj => ?_
  rw [getLsbD_fieldBits_setrgb]
  by_cases h8 : j < 8
  · simp [h8]
  · by_cases h16 : j < 16
    · simp [h8, show j - 8 < 8 by omega, show 8 + (j - 8) = j by omega]
    · simp [h8, show ¬ j - 8 < 8 by omega, show j - 8 - 8 < 8 by omega, show 16 + (j - 8 - 8) = j by omega]

theorem encode_of_decodeK {kmax : MaxStage} {i : Instr} {w : Word} (hop : (opcodeField w).toNat = 8)
    (h : decodeK kmax w = .ok i) : encode i = w := by
  unfold decodeK at h
  split at h
  · cases h
  · rename_i hz
    split at h
    · cases h
    · cases h
      refine encode_eq_of_fields hop fun j hj => ?_
      rw [getLsbD_fieldBits_wdcfg]
      by_cases h3 : j < 3
      · simp [h3]
      · simp [h3, getLsbD_of_extractLsb'_eq_zero (not_not.1 hz) j (by omega) (by omega)]

theorem encode_of_decodeT {i : Instr} {w : Word} (hop : (opcodeField w).toNat = 10)
    (h : decodeT w = .ok i) : encode i = w := by
  unfold decodeT at h
  split at h
  · cases h
  · rename_i hz
    cases h
    refine encode_eq_of_fields hop fun j hj => ?_
    rw [getLsbD_fieldBits_nap]
    by_cases h16 : j < 16
    · simp [h16]
    · simp [h16, getLsbD_of_extractLsb'_eq_zero (not_not.1 hz) j (by omega) (by omega)]

theorem encode_of_decodeR {i : Instr} {w : Word} (hop : (opcodeField w).toNat = 12)
    (h : decodeR w = .ok i) : encode i = w := by
  unfold decodeR at h
  split at h
  · cases h
  · rename_i hz
    split at h
    · cases h
    · cases h
      refine encode_eq_of_fields hop fun j hj => ?_
      rw [getLsbD_fieldBits_rdreg]
      by_cases h4 : j < 4
      · simp [h4]
      · simp [h4, getLsbD_of_extractLsb'_eq_zero (not_not.1 hz) j (by omega) (by omega)]

/-- A word that decodes is the word of the command it decodes to (R86). -/
theorem encode_of_decode {kmax : MaxStage} {i : Instr} {w : Word} (h : decode kmax w = .ok i) :
    encode i = w := by
  unfold decode at h
  split at h <;> rename_i hop
  · exact encode_of_decodeN h hop rfl
  · exact encode_of_decodeN h hop rfl
  · exact encode_of_decodeC hop h
  · exact encode_of_decodeP hop h
  · exact encode_of_decodeN h hop rfl
  · exact encode_of_decodeN h hop rfl
  · exact encode_of_decodeN h hop rfl
  · exact encode_of_decodeN h hop rfl
  · exact encode_of_decodeK hop h
  · exact encode_of_decodeN h hop rfl
  · exact encode_of_decodeT hop h
  · exact encode_of_decodeN h hop rfl
  · exact encode_of_decodeR hop h
  · cases h

end Sys2Proof
end
section
/-! PROOF. What the fetch step of a command and a micro-operation can do, said once (R151), and what they leave
unchanged. -/
namespace Sys2Proof.Machine

variable {s u : State} {t : Turn}

/-! ### The fetch step of a command -/

/-- What the fetch step of a command does: it completes the command, enters it, or raises a fault (R151, R170). -/
inductive Executed (s : State) : Instr → State → Prop where
  | nop : Executed s .nop s.complete
  | init : Executed s .init ({ s with
      ddata := true, line := false, dspwr := true, spwr := false, didr := true
      trace := s.trace ++ (if s.ddata then [] else [.line .low]) } : State).complete
  | setc (ch : Channel) (v : Byte) :
      Executed s (.setc ch v) ({ s with color := s.color.set ch v } : State).complete
  | setrgb (v0 v1 v2 : Byte) :
      Executed s (.setrgb v0 v1 v2) ({ s with color := ⟨some v0, some v1, some v2⟩ } : State).complete
  | tx (c0 c1 c2 : Byte) : Executed s .tx (s.transmit c0 c1 c2)
  | cli : Executed s .cli s.disableInterrupts.advance
  | sei : Executed s .sei s.enableInterrupts.advance
  | halt : Executed s .halt ((s.enterHalt .any).setQueue [.uDone])
  | wdcfg (k : Stage) (hk : Stage.legal s.cfg.kmax k) : Executed s (.wdcfg k) (s.arm k).complete
  | wdstop : Executed s .wdstop s.disarm.complete
  | nap (n : Ticks) : Executed s (.nap n) ((s.setQueue (napQueue s.cfg.kmax n)).setShadow false)
  | sample (hd : s.dspwr = true) : Executed s .sample ((s.setQueue sampleQueue).setShadow false)
  | rdreg (rn : RegNum) (v : Byte) :
      Executed s (.rdreg rn) (({ s with resp := some v } : State).emit (.resp rn v)).complete
  | raise (i : Instr) (code : FaultCode) (w : Word) (reg : Option RegNum) : Executed s i (s.raise code w reg)

theorem executed_of_exec {i : Instr} (h : exec i s = .next u) : Executed s i u := by
  cases i with
  | nop => cases h; exact .nop
  | init =>
    cases h
    have hi := Executed.init (s := s)
    cases hd : s.ddata <;> simpa [hd] using hi
  | setc ch v =>
    simp only [exec, execSetc] at h
    split at h <;> cases h
    · exact .setc ch v
    · exact .raise ..
  | setrgb v0 v1 v2 => cases h; exact .setrgb v0 v1 v2
  | tx =>
    simp only [exec, execTx] at h
    split at h
    · split at h <;> cases h
      · exact .tx _ _ _
      · exact .raise ..
    · cases h; exact .raise ..
  | cli => cases h; exact .cli
  | sei => cases h; exact .sei
  | halt => cases h; exact .halt
  | wdcfg k =>
    simp only [exec, execWdcfg] at h
    split at h <;> cases h
    · exact .wdcfg k ‹_›
    · exact .raise ..
  | wdstop => cases h; exact .wdstop
  | nap n => cases h; exact .nap n
  | sample =>
    simp only [exec, execSample] at h
    split at h <;> cases h
    · exact .sample ‹_›
    · exact .raise ..
  | rdreg rn =>
    simp only [exec, execRdreg] at h
    split at h <;> cases h
    · exact .rdreg rn _
    · exact .raise ..
    · exact .raise ..

/-- No command changes the program or the parameters (R23; log 2). -/
theorem Executed.prog_cfg {i : Instr} (h : Executed s i u) : u.prog = s.prog ∧ u.cfg = s.cfg := by
  cases h <;> simp [State.transmit_eq]

/-- A command only appends to the trace, and its segments are those of TX (R38, R45). -/
theorem Executed.trace {i : Instr} (h : Executed s i u) : ∃ es, u.trace = s.trace ++ es ∧
    ∀ level cycles, .seg level cycles ∈ es → i = .tx := by
  cases h with
  | init => refine ⟨_, rfl, ?_⟩; cases s.ddata <;> simp
  | tx c0 c1 c2 => exact ⟨_, by simp [State.transmit_eq]; rfl, fun _ _ _ => rfl⟩
  | rdreg rn v => exact ⟨_, rfl, by simp⟩
  | _ => exact ⟨[], by simp⟩

/-! ### Micro-operations -/

/-- The events of a micro-operation (R125, R143). -/
def MicroOp.events (s : State) : MicroOp → List Event
  | .uSub k => [.slept k]
  | .uSensOn => [.sense true]
  | .uRead => [.sampled s.adres]
  | .uSensOff => [.sense false]
  | .uArm _ | .uSei | .uCli | .uHaltUntil _ | .uSetRem _ | .uDisarm | .uAdcStart | .uDone => []

theorem MicroOp.seg_not_mem_events (m : MicroOp) (level : Bool) (cycles : Nat) :
    .seg level cycles ∉ m.events s := by
  cases m <;> simp [MicroOp.events]

@[simp] theorem State.perform_trace (m : MicroOp) : (s.perform m).trace = s.trace ++ m.events s := by
  cases m <;> simp [State.perform, MicroOp.events]

@[simp] theorem State.perform_mq (m : MicroOp) : (s.perform m).mq = s.mq := by cases m <;> rfl
@[simp] theorem State.perform_fault (m : MicroOp) : (s.perform m).fault = s.fault := by cases m <;> rfl
@[simp] theorem State.perform_prog (m : MicroOp) : (s.perform m).prog = s.prog := by cases m <;> rfl
@[simp] theorem State.perform_cfg (m : MicroOp) : (s.perform m).cfg = s.cfg := by cases m <;> rfl
@[simp] theorem State.perform_color (m : MicroOp) : (s.perform m).color = s.color := by cases m <;> rfl
@[simp] theorem State.perform_ddata (m : MicroOp) : (s.perform m).ddata = s.ddata := by cases m <;> rfl
@[simp] theorem State.perform_latchok (m : MicroOp) : (s.perform m).latchok = s.latchok := by cases m <;> rfl

/-! ### Services -/

section
variable (src : Source)

@[simp] theorem State.service_trace : (s.service src).trace = s.trace ++ [.serviced src] := by
  cases src <;> simp [State.service_wdt, State.service_adc]
@[simp] theorem State.service_I : (s.service src).I = true := by
  cases src <;> simp [State.service_wdt, State.service_adc]
@[simp] theorem State.service_cp : (s.service src).cp = s.cp := by
  cases src <;> simp [State.service_wdt, State.service_adc]
@[simp] theorem State.service_fault : (s.service src).fault = s.fault := by
  cases src <;> simp [State.service_wdt, State.service_adc]
@[simp] theorem State.service_prog : (s.service src).prog = s.prog := by
  cases src <;> simp [State.service_wdt, State.service_adc]
@[simp] theorem State.service_cfg : (s.service src).cfg = s.cfg := by
  cases src <;> simp [State.service_wdt, State.service_adc]
@[simp] theorem State.service_color : (s.service src).color = s.color := by
  cases src <;> simp [State.service_wdt, State.service_adc]
@[simp] theorem State.service_ddata : (s.service src).ddata = s.ddata := by
  cases src <;> simp [State.service_wdt, State.service_adc]
@[simp] theorem State.service_latchok : (s.service src).latchok = s.latchok := by
  cases src <;> simp [State.service_wdt, State.service_adc]

end

/-! ### The fetch -/

@[simp] theorem State.passTurn_fetching (w : Word) : s.passTurn.Fetching w ↔ s.Fetching w := by
  constructor <;> rintro ⟨hf, hd, hh, hq, hw⟩ <;> constructor <;> simp_all

/-- A command is fetched as the word it encodes to (R86, R151). -/
theorem fetching_of_decode {w : Word} {i : Instr} (hf : s.fault = none) (hd : s.serviceDue = false)
    (hh : s.halted = false) (hq : s.mq = []) (hw : s.prog[s.cp]? = some w) (hi : decode s.cfg.kmax w = .ok i) :
    s.Fetching (encode i) :=
  ⟨hf, hd, hh, hq, by rw [hw, encode_of_decode hi]⟩

end Sys2Proof.Machine
end
section
/-! PROOF. The invariant: what each update of the state needs to keep it, and that every move of every agent does
(R22 to R36, R126, R143). -/
namespace Sys2Proof.Machine

variable {s u : State}

/-! ### The ladder: what its stages account for -/

/-- The stages taken by the loop of R120 and what it leaves add up to what it began with (R121). -/
theorem ladderFrom_sum (stages : List Stage) (rem : Ticks) :
    ((ladderFrom stages rem).1.map fun k => 16 * 2 ^ k.toNat).sum + (ladderFrom stages rem).2.toNat
      = rem.toNat := by
  induction stages generalizing rem with
  | nil => simp [ladderFrom]
  | cons k stages ih =>
    obtain ⟨htaken, hleft⟩ := takeStage_ladder k rem
    have hih := ih (takeStage k 4096 rem).2
    have hdiv := Nat.div_add_mod' rem.toNat (16 * 2 ^ k.toNat)
    simp only [ladderFrom_cons, htaken, List.map_append, List.map_replicate, List.sum_append,
      List.sum_replicate, smul_eq_mul]
    omega

/-- The last stage of the ladder leaves less than its 16 ticks (R121). -/
theorem ladderFrom_residual_lt (n : Nat) (rem : Ticks) : (ladderFrom (stagesDown n) rem).2.toNat < 16 := by
  induction n generalizing rem with
  | zero =>
    have hleft := (takeStage_ladder 0#3 rem).2
    simp only [stagesDown, ladderFrom_cons, ladderFrom, hleft]
    exact Nat.mod_lt _ (by decide)
  | succ n ih => exact ih _

theorem mem_stages_of_mem_ladderFrom {k : Stage} (stages : List Stage) (rem : Ticks)
    (h : k ∈ (ladderFrom stages rem).1) : k ∈ stages := by
  induction stages generalizing rem with
  | nil => simp [ladderFrom] at h
  | cons k' stages ih =>
    rw [ladderFrom_cons, (takeStage_ladder k' rem).1] at h
    rcases List.mem_append.1 h with h | h
    · simp [List.eq_of_mem_replicate h]
    · exact .tail _ (ih _ h)

theorem toNat_le_of_mem_stagesDown {k : Stage} (n : Nat) (h : k ∈ stagesDown n) : k.toNat ≤ n := by
  induction n with
  | zero => simp_all [stagesDown]
  | succ n ih =>
    rcases List.mem_cons.1 h with rfl | h
    · exact BitVec.toNat_ofNat (n + 1) 3 ▸ Nat.mod_le _ _
    · exact (ih h).trans n.le_succ

/-- The ladder's stages are at most `KMAX` (R121). -/
theorem stage_legal_of_mem_ladder {k : Stage} {kmax : MaxStage} {n : Ticks} (h : k ∈ (ladder kmax n).1) :
    Stage.legal kmax k :=
  toNat_le_of_mem_stagesDown _ (mem_stages_of_mem_ladderFrom _ n h)

theorem ticksToAccount_stages (ks : List Stage) (q : List MicroOp) :
    ticksToAccount (ks.flatMap stageMops ++ q) = (ks.map fun k => 16 * 2 ^ k.toNat).sum + ticksToAccount q := by
  induction ks with
  | nil => simp
  | cons k ks ih => simp [stageMops, ticksToAccount, ih]; omega

/-- The stages of a NAP account for its time but for a residual below 16 (R121, R122). -/
theorem ticksToAccount_napQueue (kmax : MaxStage) (n : Ticks) :
    ticksToAccount (napQueue kmax n) ≤ n.toNat ∧ n.toNat < ticksToAccount (napQueue kmax n) + 16 := by
  have hsum := ladderFrom_sum (stagesDown kmax.toNat) n
  have hres := ladderFrom_residual_lt kmax.toNat n
  simp only [napQueue, ladder, ticksToAccount, ticksToAccount_stages]
  omega

/-! ### The queue -/

/-- The queue neither begins with a halt nor is inside an armed stage, so that it needs no source. -/
def NoHaltNext (q : List MicroOp) : Prop := (∀ w rest, q ≠ .uHaltUntil w :: rest) ∧ ¬ stageArmed q

theorem StagesLeft.noHaltNext {q : List MicroOp} (h : StagesLeft q) : NoHaltNext q :=
  ⟨by cases h <;> simp [stageMops], h.not_stageArmed⟩

theorem NapRest.tail {m : MicroOp} {q : List MicroOp} (h : NapRest (m :: q)) : q = [] ∨ NapRest q := by
  cases h with
  | setRem v h => exact .inr h.napRest
  | arm k h => exact .inr (.sei k h)
  | sei k h => exact .inr (.halt k h)
  | halt k h => exact .inr (.wake k h)
  | wake k h => exact .inr (.sub k h)
  | sub k h => exact .inr h.napRest
  | disarm => exact .inr .mask
  | mask => exact .inr .done
  | done => exact .inl rfl

theorem NapRest.of_suffix {q r : List MicroOp} (h : NapRest q) (hs : r <:+ q) (hne : r ≠ []) : NapRest r := by
  induction q with
  | nil => exact absurd (List.suffix_nil.1 hs) hne
  | cons m q ih =>
    rcases List.suffix_cons_iff.1 hs with rfl | hs
    · exact h
    · rcases h.tail with rfl | hq
      · exact absurd (List.suffix_nil.1 hs) hne
      · exact ih hq hs

theorem StagesLeft.setRem_not_mem {q : List MicroOp} (h : StagesLeft q) (v : Ticks) : .uSetRem v ∉ q := by
  induction h with
  | last => simp
  | stage k _ ih => simp [stageMops, ih]

theorem queueShape_tail {kmax : MaxStage} {m : MicroOp} {q : List MicroOp} (h : queueShape kmax (m :: q)) :
    queueShape kmax q := by
  have hs : q <:+ m :: q := List.suffix_cons m q
  exact h.imp hs.trans (Or.imp hs.trans fun ⟨n, hn⟩ => ⟨n, hs.trans hn⟩)

/-- The stages that a queue arms are at most `KMAX` (R121). -/
theorem stage_legal_of_queueShape {kmax : MaxStage} {k : Stage} {q : List MicroOp} (h : queueShape kmax q)
    (hk : .uArm k ∈ q) : Stage.legal kmax k := by
  rcases h with h | h | ⟨n, h⟩
  · simpa using h.subset hk
  · simpa [sampleQueue] using h.subset hk
  · have hmem := h.subset hk
    simp only [napQueue, List.mem_cons, List.mem_append, List.mem_flatMap, stageMops] at hmem
    obtain ⟨k', hk', rfl⟩ : ∃ k', k' ∈ (ladder kmax n).1 ∧ k = k' := by simpa using hmem
    exact stage_legal_of_mem_ladder hk'

/-- The queue behind `uSetRem v` accounts for v (R126, R128). -/
theorem ticksToAccount_of_setRem {kmax : MaxStage} {v : Ticks} {q : List MicroOp}
    (h : queueShape kmax (.uSetRem v :: q)) : ticksToAccount q ≤ v.toNat ∧ v.toNat < ticksToAccount q + 16 := by
  rcases h with h | h | ⟨n, h⟩
  · exact absurd (h.subset List.mem_cons_self) (by simp)
  · exact absurd (h.subset List.mem_cons_self) (by simp [sampleQueue])
  · rcases List.suffix_cons_iff.1 h with heq | hs
    · have hacc := ticksToAccount_napQueue kmax n
      rw [napQueue, ← heq] at hacc
      obtain ⟨hv, -⟩ := List.cons.inj heq
      cases hv
      simpa [ticksToAccount] using hacc
    · exact absurd (hs.subset List.mem_cons_self) ((stagesLeft_of_ladder _).setRem_not_mem v)

/-- A queue in progress is the rest of a NAP's or of a SAMPLE's; HALT's is the end of both (R36). -/
theorem napRest_or_sample_of_queueShape {kmax : MaxStage} {q : List MicroOp} (h : queueShape kmax q)
    (hne : q ≠ []) : NapRest q ∨ q <:+ sampleQueue := by
  rcases h with h | h | ⟨n, h⟩
  · exact .inl (NapRest.done.of_suffix h hne)
  · exact .inr h
  · exact .inl ((napQueue_napRest kmax n).of_suffix h hne)

theorem not_stageArmed_of_sample {q : List MicroOp} (h : q <:+ sampleQueue) : ¬ stageArmed q := by
  rintro (⟨rest, rfl⟩ | ⟨rest, rfl⟩) <;> exact absurd (h.subset (a := .uHaltUntil .wdt) (by simp)) (by decide)

/-- A queue that the fetch step of a command may lay down: it waits for no source yet, and holds the
micro-operations that its later ones rely on. -/
structure State.Startable (s : State) (q : List MicroOp) : Prop where
  shape      : queueShape s.cfg.kmax q
  noHalt     : NoHaltNext q
  switchesOn : .uSensOff ∈ q → .uSensOn ∈ q ∧ .uAdcStart ∈ q
  afterInit  : .uSensOn ∈ q → s.dspwr = true
  waits      : .uRead ∈ q → .uHaltUntil .adc ∈ q
  setsRem    : .uDisarm ∈ q → ∃ v, .uSetRem v ∈ q

theorem State.startable_uDone (s : State) : s.Startable [.uDone] := by
  refine ⟨.inl List.suffix_rfl, ?_, ?_, ?_, ?_, ?_⟩ <;> simp [NoHaltNext, stageArmed]

theorem State.startable_napQueue (s : State) (n : Ticks) : s.Startable (napQueue s.cfg.kmax n) := by
  refine ⟨.inr (.inr ⟨n, List.suffix_rfl⟩), ?_, ?_, ?_, ?_, ?_⟩ <;>
    simp [NoHaltNext, napQueue, stageMops, stageArmed]

theorem State.startable_sampleQueue (s : State) (hd : s.dspwr = true) : s.Startable sampleQueue := by
  refine ⟨.inr (.inl List.suffix_rfl), ?_, ?_, ?_, ?_, ?_⟩ <;> simp [NoHaltNext, sampleQueue, stageArmed, hd]

/-- The source of a halt that comes next is ready (R126, R142). -/
structure State.ReadyFor (s : State) (q : List MicroOp) : Prop where
  enabled : ∀ w rest, q = .uHaltUntil w :: rest → s.I = true
  running : stageArmed q → s.wden = true

theorem NoHaltNext.readyFor {q : List MicroOp} (h : NoHaltNext q) : s.ReadyFor q :=
  ⟨fun w rest hw => absurd hw (h.1 w rest), fun ha => absurd ha h.2⟩

/-- The sensor is switched as the queue q has it inside SAMPLE (R143, R145). -/
structure State.SensorMatches (s : State) (q : List MicroOp) : Prop where
  supply    : s.spwr = true ↔ .uSensOff ∈ q ∧ .uSensOn ∉ q
  frontEnd  : s.aden = true ↔ .uSensOff ∈ q ∧ .uAdcStart ∉ q
  enabled   : s.adie = s.aden
  busy      : s.adsc = true ∨ s.adif = true → s.aden = true
  afterInit : .uSensOn ∈ q ∨ s.spwr = true → s.dspwr = true
  result    : s.adif = true → s.adres.isSome = true

theorem State.Inv.sensorMatches (h : s.Inv) : s.SensorMatches s.mq :=
  ⟨h.supplyInSample, h.frontEndInSample, h.converterEnabled, h.converterBusy, h.supplyAfterInit, h.flagHasResult⟩

/-! ### Updates that keep the invariant -/

namespace State.Inv

theorem passTurn (h : s.Inv) : s.passTurn.Inv := by
  unfold State.passTurn
  split <;> exact { h with }

theorem noShadow (h : s.Inv) : (s.setShadow false).Inv :=
  { h with shadowEnabled := by simp }

theorem enableInterrupts (h : s.Inv) : s.enableInterrupts.Inv :=
  { h with
    shadowEnabled := fun _ => rfl
    haltEnabled := fun _ _ _ => rfl
    napHaltEnds := fun hh hw => ⟨rfl, (h.napHaltEnds hh hw).2⟩
    sampleHaltEnabled := fun hh hw => ⟨rfl, (h.sampleHaltEnabled hh hw).2⟩ }

/-- Interrupts may be masked where no halt is entered or stands. -/
theorem disableInterrupts (h : s.Inv) (hh : s.halted = false) (hq : ∀ w rest, s.mq ≠ .uHaltUntil w :: rest) :
    s.disableInterrupts.Inv :=
  { h with
    shadowEnabled := by simp
    haltEnabled := fun w rest hw => absurd hw (hq w rest)
    napHaltEnds := by simp [hh]
    sampleHaltEnabled := by simp [hh] }

theorem arm (h : s.Inv) {k : Stage} (hk : Stage.legal s.cfg.kmax k) : (s.arm k).Inv :=
  { h with
    stageLegal := hk
    countdownEnabled := rfl
    countdownFlag := fun _ => rfl
    stageRunning := fun _ => rfl
    napHaltEnds := fun hh hw => ⟨(h.napHaltEnds hh hw).1, rfl⟩ }

/-- The countdown may be stopped where no stage is halted for. -/
theorem disarm (h : s.Inv) (hh : s.halted = false) (hq : ¬ stageArmed s.mq) : s.disarm.Inv :=
  { h with
    countdownEnabled := rfl
    countdownFlag := by simp
    stageRunning := fun hs => absurd hs hq
    napHaltEnds := by simp [hh] }

/-- A halt may be entered for a source that is ready to end it. -/
theorem enterHalt (h : s.Inv) {w : HaltWait} (hf : s.fault = none) (hh : s.halted = false) (hq : s.mq ≠ [])
    (hwdt : w = .wdt → s.I = true ∧ s.wden = true) (hadc : w = .adc → s.I = true ∧ s.adie = true) :
    (s.enterHalt w).Inv :=
  { h with
    haltInCommand := fun _ => hq
    faultAtFetch := fun hf' => absurd hf hf'
    shadowEnabled := by simp
    readHasResult := fun hr => (h.readHasResult hr).imp_right
      (Or.imp_left fun hw => absurd (hh.symm.trans hw.1) (by decide))
    napHaltEnds := fun _ => hwdt
    sampleHaltEnabled := fun _ => hadc }

theorem raise (h : s.Inv) (hq : s.mq = []) (hh : s.halted = false) (code : FaultCode) (w : Word)
    (reg : Option RegNum) : (s.raise code w reg).Inv :=
  { h with faultAtFetch := fun _ => ⟨hq, hh⟩ }

theorem advance (h : s.Inv) (hq : s.mq = []) (hcp : s.cp < s.prog.length) : s.advance.Inv :=
  { h with
    cpInProgram := hcp
    cpAtCommand := fun hne => absurd hq hne }

theorem complete (h : s.Inv) (hq : s.mq = []) (hcp : s.cp < s.prog.length) : s.complete.Inv :=
  h.noShadow.advance hq hcp

/-! ### The agents beside the engine, and services -/

theorem expire (h : s.Inv) (he : s.expireEnabled = true) : s.expire.Inv :=
  { h with countdownFlag := fun _ => (Bool.and_eq_true_iff.1 he).1 }

theorem convert (h : s.Inv) (he : s.convertEnabled = true) (v : Byte) : (s.convert v).Inv :=
  { h with
    converterBusy := fun _ => (Bool.and_eq_true_iff.1 (Bool.and_eq_true_iff.1 he).1).2
    flagHasResult := fun _ => rfl
    readHasResult := fun _ => .inr (.inr rfl) }

theorem resetStep : s.resetStep.Inv := by
  rw [State.resetStep_eq]
  constructor <;> simp [State.reset, queueShape, stageArmed]

/-- A halt may end, that of a SAMPLE with a result. -/
theorem mayResume (h : s.Inv) (b : Bool) (hb : b = false → s.hwait = .adc → s.adres.isSome = true) :
    ({ s with halted := s.halted && b } : State).Inv :=
  { h with
    haltInCommand := fun hh => h.haltInCommand (Bool.and_eq_true_iff.1 hh).1
    faultAtFetch := fun hf => ⟨(h.faultAtFetch hf).1, by simp [(h.faultAtFetch hf).2]⟩
    readHasResult := fun hr => by
      rcases h.readHasResult hr with hw | ⟨hh, hw⟩ | hres
      · exact .inl hw
      · cases b with
        | true => exact .inr (.inl ⟨by simp [hh], hw⟩)
        | false => exact .inr (.inr (hb rfl hw))
      · exact .inr (.inr hres)
    napHaltEnds := fun hh => h.napHaltEnds (Bool.and_eq_true_iff.1 hh).1
    sampleHaltEnabled := fun hh => h.sampleHaltEnabled (Bool.and_eq_true_iff.1 hh).1 }

/-- A service of the countdown leaves a SAMPLE's halt standing (R178). -/
theorem service_wdt (h : s.Inv) : (s.service .wdt).Inv := by
  rw [State.service_wdt]
  have hresumed := h.enableInterrupts.noShadow.mayResume (!s.hwait.endedBy .wdt) fun hb hw => by
    simp [show s.hwait = .adc from hw, HaltWait.endedBy] at hb
  exact { hresumed with countdownFlag := by simp }

/-- A service of the converter comes with a result (R141, R178). -/
theorem service_adc (h : s.Inv) (hp : s.pend .adc = true) : (s.service .adc).Inv := by
  rw [State.service_adc]
  have hresumed := h.enableInterrupts.noShadow.mayResume (!s.hwait.endedBy .adc) fun _ _ =>
    h.flagHasResult (Bool.and_eq_true_iff.1 hp).1
  exact { hresumed with
    converterBusy := fun hb => h.converterBusy (hb.imp_right fun hc => absurd hc (by simp))
    flagHasResult := by simp }

theorem service (h : s.Inv) (hd : s.serviceDue = true) : (s.service s.highestPending).Inv := by
  have hp := s.pend_highestPending hd
  cases hs : s.highestPending with
  | wdt => exact h.service_wdt
  | adc => exact h.service_adc (hs ▸ hp)

/-! ### Fetched commands -/

/-- Outside a command the sensor is off (R145, R196). -/
theorem sensor_off (h : s.Inv) (hq : .uSensOff ∉ s.mq) : s.spwr = false ∧ s.aden = false := by
  have hs := h.supplyInSample
  have he := h.frontEndInSample
  simp_all

/-- A command's queue may be laid down at its fetch. -/
theorem fetch_queue (h : s.Inv) (hf : s.fault = none) (hh : s.halted = false) (hq : s.mq = [])
    (hcp : s.cp < s.prog.length) {q : List MicroOp} (hs : s.Startable q) : (s.setQueue q).Inv := by
  obtain ⟨hspwr, haden⟩ := h.sensor_off (by simp [hq])
  obtain ⟨hhalt, harmed⟩ := hs.noHalt
  exact { h with
    queue := hs.shape
    cpAtCommand := fun _ => hcp
    haltInCommand := by simp [hh]
    faultAtFetch := fun hf' => absurd hf hf'
    supplyInSample := by simpa [hspwr] using fun hoff => (hs.switchesOn hoff).1
    frontEndInSample := by simpa [haden] using fun hoff => (hs.switchesOn hoff).2
    supplyAfterInit := by simpa [hspwr] using hs.afterInit
    readHasResult := fun hr => .inl (hs.waits hr)
    haltEnabled := fun w rest hw => absurd hw (hhalt w rest)
    stageRunning := fun ha => absurd ha harmed
    napremAccounts := fun hd hv => by
      obtain ⟨v, hmem⟩ := hs.setsRem hd
      exact absurd hmem (hv v) }

/-- Every command fetched from the program keeps the invariant. -/
theorem executed {i : Instr} (h : s.Inv) (hf : s.fault = none) (hh : s.halted = false) (hq : s.mq = [])
    (hcp : s.cp < s.prog.length) (he : Executed s i u) : u.Inv := by
  obtain ⟨hspwr, -⟩ := h.sensor_off (by simp [hq])
  cases he with
  | nop => exact h.complete hq hcp
  | init =>
    refine complete { h with
      lineLow := rfl
      pinsTogether := ⟨rfl, rfl⟩
      supplyInSample := ?_
      supplyAfterInit := fun _ => rfl } hq hcp
    simp [hq]
  | setc ch v => exact complete { h with } hq hcp
  | setrgb v0 v1 v2 => exact complete { h with } hq hcp
  | tx c0 c1 c2 =>
    rw [State.transmit_eq]
    exact complete (s := { s with
      line := false, latchok := false, wdfresh := false
      trace := s.trace ++ (frameBits c0 c1 c2).flatMap (bitEvents s.cfg) ++ [.frame c0 c1 c2 s.latchok] })
      { h with lineLow := rfl } hq hcp
  | cli => exact (h.disableInterrupts hh (by simp [hq])).advance hq hcp
  | sei => exact h.enableInterrupts.advance hq hcp
  | halt =>
    exact (h.fetch_queue hf hh hq hcp s.startable_uDone).enterHalt hf hh (List.cons_ne_nil _ _)
      (by simp) (by simp)
  | wdcfg k hk => exact (h.arm hk).complete hq hcp
  | wdstop => exact (h.disarm hh (by simp [hq, stageArmed])).complete hq hcp
  | nap n => exact (h.fetch_queue hf hh hq hcp (s.startable_napQueue n)).noShadow
  | sample hd => exact (h.fetch_queue hf hh hq hcp (s.startable_sampleQueue hd)).noShadow
  | rdreg rn v => exact complete { h with } hq hcp
  | raise i code w reg => exact h.raise hq hh code w reg

/-! ### Micro-operations -/

/-- The head m of the queue may be removed once its effect has made ready what the rest of the queue needs. The
switches of the sensor change what the invariant says of the queue, and are not among these. `NAPREM` may take
the value n that the rest accounts for. -/
theorem pop (h : s.Inv) {m : MicroOp} {rest : List MicroOp} (hf : s.fault = none) (hq : s.mq = m :: rest)
    (hm : m ∉ [.uSensOn, .uAdcStart, .uSensOff]) (hhalted : s.halted = true → rest ≠ [])
    (hread : m = .uHaltUntil .adc → s.halted = true ∧ s.hwait = .adc)
    (hready : s.ReadyFor rest) (n : Option Ticks) (hn : .uDisarm ∈ rest → (∀ v, .uSetRem v ∉ rest) →
      ∃ r, n = some r ∧ ticksToAccount rest ≤ r.toNat ∧ r.toNat < ticksToAccount rest + 16) :
    ({ s with mq := rest, naprem := n } : State).Inv := by
  obtain ⟨hon, hadc, hoff⟩ : .uSensOn ≠ m ∧ .uAdcStart ≠ m ∧ .uSensOff ≠ m := by
    simpa [eq_comm] using hm
  exact { h with
    queue := queueShape_tail (hq ▸ h.queue)
    cpAtCommand := fun _ => h.cpAtCommand (by simp [hq])
    haltInCommand := hhalted
    faultAtFetch := fun hf' => absurd hf hf'
    supplyInSample := by simpa [hq, hon, hoff] using h.supplyInSample
    frontEndInSample := by simpa [hq, hadc, hoff] using h.frontEndInSample
    supplyAfterInit := by simpa [hq, hon] using h.supplyAfterInit
    readHasResult := fun hr => by
      rcases h.readHasResult (hq ▸ .tail _ hr) with hw | hw
      · rcases List.mem_cons.1 (hq ▸ hw) with rfl | hw
        · exact .inr (.inl (hread rfl))
        · exact .inl hw
      · exact .inr hw
    haltEnabled := hready.enabled
    stageRunning := hready.running
    napremAccounts := hn }

/-- A micro-operation that neither switches the sensor nor counts `NAPREM` down. -/
theorem pop_keeping_naprem (h : s.Inv) {m : MicroOp} {rest : List MicroOp} (hf : s.fault = none)
    (hq : s.mq = m :: rest) (hm : m ∉ [.uSensOn, .uAdcStart, .uSensOff])
    (hrem : (∀ v, m ≠ .uSetRem v) ∧ ticksToAccount (m :: rest) = ticksToAccount rest)
    (hhalted : s.halted = true → rest ≠ []) (hread : m = .uHaltUntil .adc → s.halted = true ∧ s.hwait = .adc)
    (hready : s.ReadyFor rest) : (s.setQueue rest).Inv := by
  refine h.pop hf hq hm hhalted hread hready s.naprem fun hd hv => ?_
  have hacc := h.napremAccounts (hq ▸ .tail _ hd) fun v => by
    simpa [hq, hv v] using (hrem.1 v).symm
  rwa [hq, hrem.2] at hacc

section

variable {rest : List MicroOp} {k : Stage} {v : Ticks} {w : HaltWait}
variable (h : s.Inv) (hf : s.fault = none) (hh : s.halted = false)
include h hf hh

theorem perform_uSetRem (hq : s.mq = .uSetRem v :: rest) (hs : StagesLeft rest) :
    ((s.setQueue rest).perform (.uSetRem v)).Inv :=
  (h.pop hf hq (by simp) (by simp [hh]) (by simp) hs.noHaltNext.readyFor (some v)
    fun _ _ => ⟨v, rfl, ticksToAccount_of_setRem (hq ▸ h.queue)⟩).noShadow

theorem perform_uArm (hq : s.mq = .uArm k :: .uSei :: rest) :
    ((s.setQueue (.uSei :: rest)).perform (.uArm k)).Inv :=
  ((h.arm (stage_legal_of_queueShape h.queue (by simp [hq]))).pop_keeping_naprem hf hq (by simp)
    (by simp [ticksToAccount]) (by simp [hh]) (by simp) ⟨by simp, fun _ => rfl⟩).noShadow

theorem perform_uSei (hq : s.mq = .uSei :: .uHaltUntil w :: rest) :
    ((s.setQueue (.uHaltUntil w :: rest)).perform .uSei).Inv := by
  refine h.enableInterrupts.pop_keeping_naprem hf hq (by simp) (by simp [ticksToAccount]) (by simp [hh])
    (by simp) ⟨fun _ _ _ => rfl, fun ha => h.stageRunning ?_⟩
  obtain rfl : w = .wdt := by simpa [stageArmed] using ha
  exact .inl ⟨rest, hq⟩

theorem perform_uHaltUntil (hq : s.mq = .uHaltUntil w :: .uCli :: rest) (hadc : w = .adc → s.adie = true) :
    ((s.setQueue (.uCli :: rest)).perform (.uHaltUntil w)).Inv := by
  have hI : s.I = true := h.haltEnabled w _ hq
  have henter : (s.enterHalt w).Inv :=
    h.enterHalt hf hh (by simp [hq]) (fun hw => ⟨hI, h.stageRunning (.inr ⟨_, hw ▸ hq⟩)⟩)
      fun hw => ⟨hI, hadc hw⟩
  exact henter.pop_keeping_naprem hf hq (by simp) (by simp [ticksToAccount]) (by simp) (by simp)
    ⟨by simp, by simp [stageArmed]⟩

theorem perform_uCli (hq : s.mq = .uCli :: rest) (hr : NoHaltNext rest) :
    ((s.setQueue rest).perform .uCli).Inv :=
  (h.disableInterrupts hh (by simp [hq])).pop_keeping_naprem hf hq (by simp) (by simp [ticksToAccount])
    (by simp [hh]) (by simp) hr.readyFor

theorem perform_uSub (hq : s.mq = .uSub k :: rest) (hs : StagesLeft rest) :
    ((s.setQueue rest).perform (.uSub k)).Inv := by
  refine noShadow { h.pop hf hq (by simp) (by simp [hh]) (by simp) hs.noHaltNext.readyFor
    (s.naprem.map (· - stagePeriod k)) fun hd hv => ?_ with }
  obtain ⟨r, hr, hle, hlt⟩ := h.napremAccounts (by simp [hq, hd]) (by simp [hq, hv])
  rw [hq, ticksToAccount] at hle hlt
  have hsub : (r - stagePeriod k).toNat = r.toNat - 16 * 2 ^ k.toNat := by
    rw [BitVec.toNat_sub_of_le (by rw [BitVec.le_def, stagePeriod_toNat]; omega), stagePeriod_toNat]
  exact ⟨r - stagePeriod k, by simp [hr], by omega, by omega⟩

theorem perform_uDisarm (hq : s.mq = .uDisarm :: rest) (hr : NoHaltNext rest) :
    ((s.setQueue rest).perform .uDisarm).Inv :=
  ((h.disarm hh (by simp [hq, stageArmed])).pop_keeping_naprem hf hq (by simp) (by simp [ticksToAccount])
    (by simp [hh]) (by simp) hr.readyFor).noShadow

theorem perform_uRead (hq : s.mq = .uRead :: rest) (hr : NoHaltNext rest) :
    ((s.setQueue rest).perform .uRead).Inv := by
  have hread : ({ s with sample := s.adres, trace := s.trace ++ [.sampled s.adres] } : State).Inv := { h with }
  exact (hread.pop_keeping_naprem hf hq (by simp) (by simp [ticksToAccount]) (by simp [hh]) (by simp)
    hr.readyFor).noShadow

theorem perform_uDone (hq : s.mq = [.uDone]) : ((s.setQueue []).perform .uDone).Inv :=
  (h.pop_keeping_naprem hf hq (by simp) (by simp [ticksToAccount]) (by simp [hh]) (by simp)
    ⟨by simp, by simp [stageArmed]⟩).complete rfl (h.cpAtCommand (by simp [hq]))

/-- A switch of the sensor changes no more than the sensor's bits, the shadow and the trace (R143). -/
theorem switch_sensor {m : MicroOp} (hq : s.mq = m :: rest) (hs : rest <:+ sampleQueue)
    (hr : NoHaltNext rest) (hread : .uRead ∈ rest → .uHaltUntil .adc ∈ rest)
    (hu : u = { s with
      mq := rest, shadow := false, spwr := u.spwr, aden := u.aden, adie := u.adie, adsc := u.adsc
      adif := u.adif, trace := u.trace })
    (hsensor : u.SensorMatches rest) : u.Inv := by
  rw [hu] at hsensor ⊢
  exact { h with
    queue := .inr (.inl hs)
    cpAtCommand := fun _ => h.cpAtCommand (by simp [hq])
    haltInCommand := by simp [hh]
    faultAtFetch := fun hf' => absurd hf hf'
    shadowEnabled := by simp
    supplyInSample := hsensor.supply
    frontEndInSample := hsensor.frontEnd
    converterEnabled := hsensor.enabled
    converterBusy := hsensor.busy
    supplyAfterInit := hsensor.afterInit
    flagHasResult := hsensor.result
    readHasResult := fun hm => .inl (hread hm)
    haltEnabled := fun w q hw => absurd hw (hr.1 w q)
    stageRunning := fun ha => absurd ha hr.2
    sampleHaltEnabled := by simp [hh]
    napremAccounts := fun hd => absurd (hs.subset hd) (by simp [sampleQueue]) }

/-- Every micro-operation of SAMPLE's queue keeps the invariant (R143). -/
theorem perform_sample {m : MicroOp} (hq : s.mq = m :: rest) (hs : m :: rest <:+ sampleQueue) :
    ((s.setQueue rest).perform m).Inv := by
  obtain ⟨hsupply, hfront, hie, hbusy, hinit, hresult⟩ := hq ▸ h.sensorMatches
  have htail := (List.suffix_cons m rest).trans hs
  simp only [sampleQueue, List.suffix_cons_iff, List.cons.injEq, List.suffix_nil, reduceCtorEq, or_false] at hs
  rcases hs with ⟨rfl, rfl⟩ | ⟨rfl, rfl⟩ | ⟨rfl, rfl⟩ | ⟨rfl, rfl⟩ | ⟨rfl, rfl⟩ | ⟨rfl, rfl⟩ | ⟨rfl, rfl⟩ |
    ⟨rfl, rfl⟩
  · exact h.switch_sensor hf hh hq htail (by simp [NoHaltNext, stageArmed]) (by simp) rfl
      ⟨by simp [State.perform], by simpa [State.perform] using hfront, hie, hbusy,
        fun _ => hinit (by simp), hresult⟩
  · exact h.switch_sensor hf hh hq htail (by simp [NoHaltNext, stageArmed]) (by simp) rfl
      ⟨by simpa [State.perform] using hsupply, by simp [State.perform], rfl, fun _ => rfl,
        by simpa [State.perform] using hinit, by simp [State.perform]⟩
  · exact h.perform_uSei hf hh hq
  · exact h.perform_uHaltUntil hf hh hq fun _ => hie.trans (hfront.2 (by simp))
  · exact h.perform_uCli hf hh hq (by simp [NoHaltNext, stageArmed])
  · exact h.perform_uRead hf hh hq (by simp [NoHaltNext, stageArmed])
  · exact h.switch_sensor hf hh hq htail (by simp [NoHaltNext, stageArmed]) (by simp) rfl
      (by constructor <;> simp [State.perform])
  · exact h.perform_uDone hf hh hq

/-- Every micro-operation of a NAP's queue keeps the invariant (R125, R126). -/
theorem perform_nap {m : MicroOp} (hq : s.mq = m :: rest) (hr : NapRest (m :: rest)) :
    ((s.setQueue rest).perform m).Inv := by
  cases hr with
  | setRem v hs => exact h.perform_uSetRem hf hh hq hs
  | arm k hs => exact h.perform_uArm hf hh hq
  | sei k hs => exact h.perform_uSei hf hh hq
  | halt k hs => exact h.perform_uHaltUntil hf hh hq (by simp)
  | wake k hs => exact h.perform_uCli hf hh hq (by simp [NoHaltNext, stageArmed])
  | sub k hs => exact h.perform_uSub hf hh hq hs
  | disarm => exact h.perform_uDisarm hf hh hq (by simp [NoHaltNext, stageArmed])
  | mask => exact h.perform_uCli hf hh hq (by simp [NoHaltNext, stageArmed])
  | done => exact h.perform_uDone hf hh hq

theorem perform {m : MicroOp} (hq : s.mq = m :: rest) : ((s.setQueue rest).perform m).Inv := by
  rcases napRest_or_sample_of_queueShape (hq ▸ h.queue) (List.cons_ne_nil m rest) with hr | hs
  · exact h.perform_nap hf hh hq hr
  · exact h.perform_sample hf hh hq hs

end

/-- Every move of every agent keeps the invariant. -/
theorem move {t : Turn} (h : s.Inv) (hm : Move t s u) : u.Inv := by
  cases hm with
  | reset _ => exact resetStep
  | expire _ _ he => exact h.expire he
  | convert v _ _ he => exact h.convert he v
  | service _ hd => exact h.service hd
  | perform m rest _ hf _ hh hq => exact h.perform hf hh hq
  | illegal w e _ _ _ hh hq _ _ => exact h.raise hq hh .illegal w none
  | fetch w i _ _ hf _ hh hq hw _ he =>
    exact h.executed hf hh hq (List.getElem?_eq_some_iff.1 hw).1 (executed_of_exec he)
  | pass _ _ => exact h

end State.Inv

/-- Settles O49: each move of an agent keeps the invariant (`State.Inv.move`). -/
theorem stepKeepsInvariant : Obligations.StepKeepsInvariant :=
  fun s u h hs => h.passTurn.move (step_move s u hs)

end Sys2Proof.Machine
end
section
/-! PROOF. What every step keeps and which steps write a register, from the moves of the agents (R22 to R47), and
the states around a reset and the head of the queue (R36, R40). -/
namespace Sys2Proof.Machine

variable {s u : State} {t : Turn}

/-! ### Trace, fault, program -/

/-- A move appends events to the trace, and no segments but at the fetch of TX (R38, R45). -/
theorem Move.trace (h : Move t s u) : ∃ es, u.trace = s.trace ++ es ∧
    ∀ level cycles, .seg level cycles ∈ es → t = .engine ∧ s.Fetching (encode .tx) := by
  cases h with
  | reset _ =>
    rw [State.resetStep_eq]
    refine ⟨_, rfl, ?_⟩
    split <;> simp
  | expire _ _ _ => exact ⟨_, rfl, by simp⟩
  | convert v _ _ _ => exact ⟨[], by simp⟩
  | service _ _ => exact ⟨_, State.service_trace _, by simp⟩
  | perform m rest _ _ _ _ _ =>
    exact ⟨_, State.perform_trace m, fun _ _ he => absurd he (m.seg_not_mem_events _ _)⟩
  | illegal w e _ _ _ _ _ _ _ => exact ⟨[], by simp⟩
  | fetch w i _ ht hf hd hh hq hw hi he =>
    obtain ⟨es, hes, hseg⟩ := (executed_of_exec he).trace
    refine ⟨es, hes, fun level cycles hmem => ⟨ht, ?_⟩⟩
    rw [← hseg level cycles hmem]
    exact fetching_of_decode hf hd hh hq hw hi
  | pass _ _ => exact ⟨[], by simp⟩

/-- The program and the parameters stay (R23; log 2). -/
theorem Move.prog_cfg (h : Move t s u) : u.prog = s.prog ∧ u.cfg = s.cfg := by
  cases h with
  | fetch w i _ _ _ _ _ _ _ _ he => exact (executed_of_exec he).prog_cfg
  | _ => simp [State.resetStep_eq]

/-- A faulted state has no move but reset, which keeps the fault (R171, R200). -/
theorem Move.fault (h : Move t s u) (hf : s.fault ≠ none) : u.fault = s.fault := by
  cases h with
  | reset _ => simp [State.resetStep_eq]
  | service _ hd => exact absurd (s.serviceDue_iff.1 hd).1 hf
  | expire _ hf' _ | convert _ _ hf' _ | perform _ _ _ hf' _ _ _ | illegal _ _ _ hf' _ _ _ _ _
  | fetch _ _ _ _ hf' _ _ _ _ _ _ | pass _ hf' => exact absurd hf' hf

/-- Settles O50: a step is a move, which appends to the trace and keeps fault, program and parameters. -/
theorem traceFaultAndProgramPersist : Obligations.TraceFaultAndProgramPersist := by
  refine ⟨fun _ _ => rfl, fun s u hs => ?_⟩
  have hm := step_move s u hs
  obtain ⟨es, hes, -⟩ := hm.trace
  obtain ⟨hprog, hcfg⟩ := hm.prog_cfg
  refine ⟨⟨es, ?_⟩, fun hf => ?_, ?_, ?_⟩
  · simpa using hes.symm
  · simpa using hm.fault (by simpa using hf)
  · simpa using hprog
  · simpa using hcfg

/-- Settles O58: the events that a move appends hold segments at the fetch of TX alone. -/
theorem onlyTxEmitsSegments : Obligations.OnlyTxEmitsSegments := by
  intro s u level cycles hs hseg
  obtain ⟨es, hes, htx⟩ := (step_move s u hs).trace
  rw [hes, State.passTurn_trace, List.drop_left] at hseg
  simpa using htx level cycles hseg

/-! ### The command pointer -/

/-- A command that advances `CP` has completed (R22). -/
theorem Executed.cp {i : Instr} (h : Executed s i u) : u.cp = s.cp ∨ (u.cp = s.cp + 1 ∧ u.mq = s.mq) := by
  cases h <;> simp [State.transmit_eq]

/-- `uDone` alone advances `CP` (R150). -/
theorem State.perform_cp (m : MicroOp) :
    (s.perform m).cp = s.cp ∨ ((s.perform m).cp = s.cp + 1 ∧ m = .uDone) := by
  cases m <;> simp [State.perform]

theorem Move.cp (h : Move t s u) :
    u.cp = s.cp ∨ (u.cp = s.cp + 1 ∧ t = .engine ∧ s.halted = false ∧ (s.mq = [] → u.mq = []) ∧
      (∀ m rest, s.mq = m :: rest → m = .uDone ∧ u.mq = rest)) ∨ (u.cp = 0 ∧ t = .reset) := by
  cases h with
  | reset ht => exact .inr (.inr ⟨by simp [State.resetStep_eq, State.reset], ht⟩)
  | perform m rest ht _ _ hh hq =>
    rcases State.perform_cp (s := s.setQueue rest) m with hcp | ⟨hcp, rfl⟩
    · exact .inl hcp
    · exact .inr (.inl ⟨hcp, ht, hh, by simp [hq], by simp [hq]⟩)
  | fetch w i _ ht _ _ hh hq _ _ he =>
    rcases (executed_of_exec he).cp with hcp | ⟨hcp, hmq⟩
    · exact .inl hcp
    · exact .inr (.inl ⟨hcp, ht, hh, by simp [hmq], by simp [hq]⟩)
  | expire _ _ _ | convert _ _ _ _ | service _ _ | illegal _ _ _ _ _ _ _ _ _ | pass _ _ => simp

/-- Settles O51: `CP` moves as the move of the step has it. -/
theorem commandPointerMovesByOne : Obligations.CommandPointerMovesByOne :=
  fun s u hs => by simpa using (step_move s u hs).cp

/-! ### Writers of `LATCHOK`, `I` and `COLOR` -/

theorem Executed.latchok {i : Instr} (h : Executed s i u) :
    u.latchok = s.latchok ∨ (u.latchok = false ∧ i = .tx) := by
  cases h <;> simp [State.transmit_eq]

theorem Move.latchok (h : Move t s u) : u.latchok = s.latchok ∨
    (u.latchok = true ∧ (t = .reset ∨ (t = .expire ∧ s.wden = true ∧ s.wdfresh = true))) ∨
    (u.latchok = false ∧ t = .engine ∧ s.Fetching (encode .tx)) := by
  cases h with
  | reset ht => exact .inr (.inl ⟨by simp [State.resetStep_eq, State.reset], .inl ht⟩)
  | expire ht _ he =>
    obtain ⟨hen, -⟩ := Bool.and_eq_true_iff.1 he
    cases hfresh : s.wdfresh with
    | true => exact .inr (.inl ⟨by simp [hfresh], .inr ⟨ht, hen, rfl⟩⟩)
    | false => exact .inl (by simp [hfresh])
  | fetch w i _ ht hf hd hh hq hw hi he =>
    rcases (executed_of_exec he).latchok with hl | ⟨hl, rfl⟩
    · exact .inl hl
    · exact .inr (.inr ⟨hl, ht, fetching_of_decode hf hd hh hq hw hi⟩)
  | convert _ _ _ _ | service _ _ | perform _ _ _ _ _ _ _ | illegal _ _ _ _ _ _ _ _ _ | pass _ _ => simp

/-- Settles O54: a move that changes `LATCHOK` is a reset, a fresh expiry or the fetch of TX. -/
theorem latchOkWriters : Obligations.LatchOkWriters := by
  intro s u hs
  have hm := (step_move s u hs).latchok
  simp only [State.passTurn_latchok, State.passTurn_wden, State.passTurn_wdfresh, State.passTurn_fetching] at hm
  rcases hm with hl | ⟨hl, hw⟩ | ⟨hl, hw⟩
  · simp +contextual [hl]
  · exact ⟨fun _ _ => hw, by simp [hl]⟩
  · exact ⟨by simp [hl], fun _ _ => hw⟩

theorem Executed.I {i : Instr} (h : Executed s i u) :
    u.I = s.I ∨ (u.I = true ∧ i = .sei) ∨ (u.I = false ∧ i = .cli) := by
  cases h <;> simp [State.transmit_eq]

theorem State.perform_I (m : MicroOp) : (s.perform m).I = s.I ∨ ((s.perform m).I = true ∧ m = .uSei) ∨
    ((s.perform m).I = false ∧ m = .uCli) := by
  cases m <;> simp [State.perform]

theorem Move.I (h : Move t s u) : u.I = s.I ∨
    (u.I = true ∧ t = .engine ∧ (s.Fetching (encode .sei) ∨ ∃ rest, s.mq = .uSei :: rest)) ∨
    (u.I = false ∧ (t = .reset ∨ (t = .engine ∧
      (s.Fetching (encode .cli) ∨ ∃ rest, s.mq = .uCli :: rest)))) := by
  cases h with
  | reset ht => exact .inr (.inr ⟨by simp [State.resetStep_eq, State.reset], .inl ht⟩)
  | service _ hd => exact .inl (by simp [(s.serviceDue_iff.1 hd).2.1])
  | perform m rest ht _ _ _ hq =>
    rcases State.perform_I (s := s.setQueue rest) m with hI | ⟨hI, rfl⟩ | ⟨hI, rfl⟩
    · exact .inl hI
    · exact .inr (.inl ⟨hI, ht, .inr ⟨rest, hq⟩⟩)
    · exact .inr (.inr ⟨hI, .inr ⟨ht, .inr ⟨rest, hq⟩⟩⟩)
  | fetch w i _ ht hf hd hh hq hw hi he =>
    have hfetch := fetching_of_decode hf hd hh hq hw hi
    rcases (executed_of_exec he).I with hI | ⟨hI, rfl⟩ | ⟨hI, rfl⟩
    · exact .inl hI
    · exact .inr (.inl ⟨hI, ht, .inl hfetch⟩)
    · exact .inr (.inr ⟨hI, .inr ⟨ht, .inl hfetch⟩⟩)
  | expire _ _ _ | convert _ _ _ _ | illegal _ _ _ _ _ _ _ _ _ | pass _ _ => simp

/-- Settles O55: a move that changes `I` is a reset or performs SEI, CLI, `uSei` or `uCli`; a service comes with
`I` = 1 and leaves it so. -/
theorem interruptEnableWriters : Obligations.InterruptEnableWriters := by
  intro s u hs
  have hm := (step_move s u hs).I
  simp only [State.passTurn_I, State.passTurn_mq, State.passTurn_fetching] at hm
  rcases hm with hI | ⟨hI, hw⟩ | ⟨hI, hw⟩
  · simp +contextual [hI]
  · exact ⟨fun _ _ => hw, by simp [hI]⟩
  · exact ⟨by simp [hI], fun _ _ => hw⟩

theorem Executed.color {i : Instr} (h : Executed s i u) : u.color = s.color ∨
    (∃ ch v, i = .setc ch v) ∨ ∃ v0 v1 v2, i = .setrgb v0 v1 v2 := by
  cases h <;> simp [State.transmit_eq]

theorem Move.color (h : Move t s u) : u.color = s.color ∨ t = .reset ∨ (t = .engine ∧
    ((∃ ch v, s.Fetching (encode (.setc ch v))) ∨ ∃ v0 v1 v2, s.Fetching (encode (.setrgb v0 v1 v2)))) := by
  cases h with
  | reset ht => exact .inr (.inl ht)
  | fetch w i _ ht hf hd hh hq hw hi he =>
    have hfetch := fetching_of_decode hf hd hh hq hw hi
    rcases (executed_of_exec he).color with hc | ⟨ch, v, rfl⟩ | ⟨v0, v1, v2, rfl⟩
    · exact .inl hc
    · exact .inr (.inr ⟨ht, .inl ⟨ch, v, hfetch⟩⟩)
    · exact .inr (.inr ⟨ht, .inr ⟨v0, v1, v2, hfetch⟩⟩)
  | expire _ _ _ | convert _ _ _ _ | service _ _ | perform _ _ _ _ _ _ _ | illegal _ _ _ _ _ _ _ _ _
  | pass _ _ => simp

/-- Settles O57: a move that changes `COLOR` is a reset or the fetch of SETC or SETRGB. -/
theorem colorWriters : Obligations.ColorWriters := by
  intro s u hs hne
  have hm := (step_move s u hs).color
  simp only [State.passTurn_color, State.passTurn_fetching] at hm
  exact hm.resolve_left hne

/-! ### The data pin -/

/-- INIT drives the data pin low, and says so if it was not driven (R154). -/
theorem Executed.ddata {i : Instr} (h : Executed s i u) : u.ddata = s.ddata ∨
    (u.ddata = true ∧ u.trace = s.trace ++ [.line .low]) := by
  cases h with
  | init => cases hd : s.ddata <;> simp
  | _ => simp [State.transmit_eq]

/-- A move that changes whether the data pin is driven says so with its last event (R47). -/
theorem Move.ddata (h : Move t s u) : u.ddata = s.ddata ∨
    ∃ es, u.trace = s.trace ++ es ++ [.line (if u.ddata then .low else .z)] := by
  cases h with
  | reset _ =>
    cases hd : s.ddata with
    | true => exact .inr ⟨[.reset], by simp [State.resetStep_eq, State.reset, hd]⟩
    | false => exact .inl (by simp [State.resetStep_eq, State.reset])
  | fetch w i _ _ _ _ _ _ _ _ he =>
    rcases (executed_of_exec he).ddata with hd | ⟨hd, htr⟩
    · exact .inl hd
    · exact .inr ⟨[], by simp [hd, htr]⟩
  | expire _ _ _ | convert _ _ _ _ | service _ _ | perform _ _ _ _ _ _ _ | illegal _ _ _ _ _ _ _ _ _
  | pass _ _ => simp

/-- Between steps the data pin is low or not driven (R28). -/
theorem State.Inv.dataPin (h : s.Inv) : s.dataPin = if s.ddata then .low else .z := by
  simp [State.dataPin, h.lineLow]

/-- Settles O59: `LINE` being 0 before and after the step, the pin changes with `DDATA` alone. -/
theorem pinChangesAreRecorded : Obligations.PinChangesAreRecorded := by
  intro s u hinv hs hpin
  rw [(stepKeepsInvariant s u hinv hs).dataPin, hinv.dataPin] at hpin
  rw [(stepKeepsInvariant s u hinv hs).dataPin]
  rcases (step_move s u hs).ddata with hd | ⟨es, htr⟩
  · rw [State.passTurn_ddata] at hd
    exact absurd (by rw [hd]) hpin
  · rw [State.passTurn_trace] at htr
    simp only [htr, List.getLast?_concat, List.length_append, List.length_singleton, true_and]
    omega

/-! ### The head of the queue, and the registers after a reset -/

/-- Settles O18, by the engine's turn at a queue that is not empty (`engineTurn_perform`). -/
theorem stepPerformsQueueHead : Obligations.StepPerformsQueueHead := by
  intro s m rest ht hf hd hh hq
  rw [step, agentStep, ht]
  exact engineTurn_perform (by simpa using hf) (by simpa using hd) (by simpa using hh) (by simpa using hq)

/-- Settles O26: the registers read the reset values of R44. -/
theorem registersAfterReset : Obligations.RegistersAfterReset := by
  intro s ht
  refine ⟨s.passTurn.resetStep, by rw [step, agentStep, ht]; rfl, ?_⟩
  rw [State.resetStep_eq]
  simp [State.reg, State.regStatus, State.regIntctl, State.regWdctl, State.regPinctl, bitByte, State.reset,
    RegRead.ofOption]

end Sys2Proof.Machine
end
section
/-! PROOF. The order of bytes and bits: a stored program is read back word for word (R63), and a frame sends the
immediate of SETRGB from its most significant bit on (R62, R64, R100). -/
namespace Sys2Proof.Machine

/-! ### Stored programs -/

/-- The stored bytes of a word by division: the byte at bit 8k is the word over 256^k, taken modulo 256 (R63). -/
theorem bytesOfWord_eq_div (w : Word) : bytesOfWord w =
    [BitVec.ofNat 8 (w.toNat / 16777216), BitVec.ofNat 8 (w.toNat / 65536),
     BitVec.ofNat 8 (w.toNat / 256), BitVec.ofNat 8 w.toNat] := by
  simp only [bytesOfWord, BitVec.extractLsb', Nat.shiftRight_eq_div_pow]
  norm_num

/-- A stored word at the front is read first, then the words of the bytes after it. -/
theorem programOfBytes_bytesOfWord_append {bs : List Byte} {ws : List Word} (w : Word)
    (h : programOfBytes bs = .ok ws) : programOfBytes (bytesOfWord w ++ bs) = .ok (w :: ws) := by
  simp [bytesOfWord, programOfBytes, h, wordOfBytes_slices]

theorem programOfBytes_bytesOfProgram (ws : List Word) : programOfBytes (bytesOfProgram ws) = .ok ws := by
  induction ws with
  | nil => rfl
  | cons w ws ih => exact programOfBytes_bytesOfWord_append w ih

/-- Settles O31: the bytes are those of `bytesOfProgram`, which `programOfBytes` reads back. -/
theorem storedProgramReadsBack : Obligations.StoredProgramReadsBack := by
  intro ws
  simp only [← bytesOfWord_eq_div]
  exact programOfBytes_bytesOfProgram ws

/-! ### Frames -/

/-- Bit i of a frame in time order is bit 23 - i of the word of SETRGB: the bytes of the channels stand in both in
the same order, the most significant bit first (R62, R64). -/
theorem frameByte_getLsbD (c0 c1 c2 : Byte) {i : Nat} (hi : i < 24) :
    (frameByte c0 c1 c2 (i / 8)).getLsbD (7 - i % 8) =
      (encode (.setrgb c0 c1 c2)).getLsbD (23 - i) := by
  rw [getLsbD_encode, if_pos (by omega), getLsbD_fieldBits_setrgb]
  obtain h0 | h1 | h2 : i / 8 = 0 ∨ i / 8 = 1 ∨ i / 8 = 2 := by omega
  · rw [h0, if_neg (by omega), if_neg (by omega), show 23 - i - 8 - 8 = 7 - i % 8 by omega, frameByte]
  · rw [h1, if_neg (by omega), if_pos (by omega), show 23 - i - 8 = 7 - i % 8 by omega, frameByte]
  · rw [h2, if_pos (by omega), show 23 - i = 7 - i % 8 by omega]
    rfl

/-- Settles O34, bit by bit (`frameByte_getLsbD`). -/
theorem frameBitsAreImmediateInOrder : Obligations.FrameBitsAreImmediateInOrder :=
  fun c0 c1 c2 => List.map_congr_left fun _ hi => frameByte_getLsbD c0 c1 c2 (List.mem_range.1 hi)

end Sys2Proof.Machine
end
section
/-! PROOF. The round trip of encoder and decoder (R85 to R87): the operands are read back from an encoded word,
the word of a command decodes exactly when the command is well-formed, and the words of the opcode map's rows are
those of the commands. -/
namespace Sys2Proof

/-! ### Decoding the word of a command with operands -/

/-- A slice of an encoded word whose bits are those of x in the command's own fields (R77). -/
theorem extractLsb'_encode_eq {i : Instr} {lo n : Nat} {x : BitVec n} (h : lo + n ≤ 24)
    (hbits : ∀ j < n, i.fieldBits.getLsbD (lo + j) = x.getLsbD j) : (encode i).extractLsb' lo n = x := by
  rw [extractLsb'_encode i lo n h]
  apply BitVec.eq_of_getLsbD_eq
  intro j hj
  rw [BitVec.getLsbD_extractLsb', hbits j hj]
  simp [hj]

theorem channel_encode_setc (ch : Channel) (v : Byte) : (encode (.setc ch v)).extractLsb' 16 2 = ch :=
  extractLsb'_encode_eq (by decide) fun j _ => by
    simp [getLsbD_fieldBits_setc, show ¬ 16 + j < 8 by omega]

theorem stage_encode_wdcfg (k : Stage) : (encode (.wdcfg k)).extractLsb' 0 3 = k :=
  extractLsb'_encode_eq (by decide) fun j _ => by simp [getLsbD_fieldBits_wdcfg]

theorem register_encode_rdreg (rn : RegNum) : (encode (.rdreg rn)).extractLsb' 0 4 = rn :=
  extractLsb'_encode_eq (by decide) fun j _ => by simp [getLsbD_fieldBits_rdreg]

/-- The word of a SETC decodes unless `CH` = 3 (R79). -/
theorem decode_encode_setc (kmax : MaxStage) (ch : Channel) (v : Byte) :
    decode kmax (encode (.setc ch v)) =
      if ch = 3#2 then .error .channelOutOfRange else .ok (.setc ch v) := by
  have hop : opcodeField (encode (.setc ch v)) = 0x02#8 := opcodeField_encode _
  have hhigh : (encode (.setc ch v)).extractLsb' 18 6 = 0#6 :=
    extractLsb'_encode_eq (by decide) fun j _ => by
      simp [getLsbD_fieldBits_setc, show ¬ 18 + j < 8 by omega, show 18 + j - 16 = 2 + j by omega]
  have hmid : (encode (.setc ch v)).extractLsb' 8 8 = 0#8 :=
    extractLsb'_encode_eq (by decide) fun j hj => by
      simp [getLsbD_fieldBits_setc, show 8 + j < 16 by omega]
  have hv : (encode (.setc ch v)).extractLsb' 0 8 = v :=
    extractLsb'_encode_eq (by decide) fun j hj => by simp [getLsbD_fieldBits_setc, hj]
  simp [decode, hop, decodeC, hhigh, hmid, hv, channel_encode_setc]

/-- Every word of a SETRGB decodes (R80). -/
theorem decode_encode_setrgb (kmax : MaxStage) (v0 v1 v2 : Byte) :
    decode kmax (encode (.setrgb v0 v1 v2)) = .ok (.setrgb v0 v1 v2) := by
  have hop : opcodeField (encode (.setrgb v0 v1 v2)) = 0x03#8 := opcodeField_encode _
  have h0 : (encode (.setrgb v0 v1 v2)).extractLsb' 16 8 = v0 :=
    extractLsb'_encode_eq (by decide) fun j _ => by
      simp [getLsbD_fieldBits_setrgb, show ¬ 16 + j < 8 by omega, show 16 + j - 8 = 8 + j by omega]
  have h1 : (encode (.setrgb v0 v1 v2)).extractLsb' 8 8 = v1 :=
    extractLsb'_encode_eq (by decide) fun j hj => by simp [getLsbD_fieldBits_setrgb, hj]
  have h2 : (encode (.setrgb v0 v1 v2)).extractLsb' 0 8 = v2 :=
    extractLsb'_encode_eq (by decide) fun j hj => by simp [getLsbD_fieldBits_setrgb, hj]
  simp [decode, hop, decodeP, h0, h1, h2]

/-- The word of a WDCFG decodes unless `K` > `KMAX` (R81). -/
theorem decode_encode_wdcfg (kmax : MaxStage) (k : Stage) :
    decode kmax (encode (.wdcfg k)) =
      if kmax.toNat < k.toNat then .error .stageOutOfRange else .ok (.wdcfg k) := by
  have hop : opcodeField (encode (.wdcfg k)) = 0x08#8 := opcodeField_encode _
  have hres : (encode (.wdcfg k)).extractLsb' 3 21 = 0#21 :=
    extractLsb'_encode_eq (by decide) fun j _ => by simp [getLsbD_fieldBits_wdcfg]
  simp [decode, hop, decodeK, hres, stage_encode_wdcfg]

/-- The word of an RDREG decodes unless `RN` > 9 (R83). -/
theorem decode_encode_rdreg (kmax : MaxStage) (rn : RegNum) :
    decode kmax (encode (.rdreg rn)) =
      if 9 < rn.toNat then .error .registerOutOfRange else .ok (.rdreg rn) := by
  have hop : opcodeField (encode (.rdreg rn)) = 0x0C#8 := opcodeField_encode _
  have hres : (encode (.rdreg rn)).extractLsb' 4 20 = 0#20 :=
    extractLsb'_encode_eq (by decide) fun j _ => by simp [getLsbD_fieldBits_rdreg]
  simp [decode, hop, decodeR, hres, register_encode_rdreg]

/-! ### The round trip -/

/-- The word of a command decodes to it exactly when the command is well-formed (R86, R87). -/
theorem decode_encode_iff (kmax : MaxStage) (i : Instr) :
    decode kmax (encode i) = .ok i ↔ i.WellFormed kmax = true := by
  cases i with
  | nop | init | tx | cli | sei | halt | wdstop | sample => exact iff_of_true rfl rfl
  | setc ch v => simp [decode_encode_setc, Instr.WellFormed]
  | setrgb v0 v1 v2 => exact iff_of_true (decode_encode_setrgb kmax v0 v1 v2) rfl
  | wdcfg k => simp [decode_encode_wdcfg, Instr.WellFormed]
  | nap t => exact iff_of_true (Machine.decode_encode_nap kmax t) rfl
  | rdreg rn => simp [decode_encode_rdreg, Instr.WellFormed]

/-- Settles O27, command by command (`decode_encode_iff`). -/
theorem decodeOfEncode : Obligations.DecodeOfEncode := fun kmax i => (decode_encode_iff kmax i).2

/-- Settles O28: the word is the command's own (`encode_of_decode`), which decodes for a well-formed command
only. -/
theorem encodeOfDecode : Obligations.EncodeOfDecode := by
  intro kmax w i h
  obtain rfl := encode_of_decode h
  exact ⟨rfl, (decode_encode_iff kmax i).1 h⟩

/-- Settles O30, word by word. -/
theorem workedEncodings : Obligations.WorkedEncodings := by
  unfold Obligations.WorkedEncodings
  decide

/-! ### The opcode map -/

/-- Every command's word matches the row of its name (R85). -/
theorem matchesRow (i : Instr) : Laws.MatchesRow.Statement i := by
  cases i with
  | nop => exact Laws.MatchesRow.nop
  | init => exact Laws.MatchesRow.init
  | setc ch v => exact Laws.MatchesRow.setc ch v
  | setrgb v0 v1 v2 => exact Laws.MatchesRow.setrgb v0 v1 v2
  | tx => exact Laws.MatchesRow.tx
  | cli => exact Laws.MatchesRow.cli
  | sei => exact Laws.MatchesRow.sei
  | halt => exact Laws.MatchesRow.halt
  | wdcfg k => exact Laws.MatchesRow.wdcfg k
  | wdstop => exact Laws.MatchesRow.wdstop
  | nap t => exact Laws.MatchesRow.nap t
  | sample => exact Laws.MatchesRow.sample
  | rdreg rn => exact Laws.MatchesRow.rdreg rn

/-- Two rows one bit of which, covered by both masks, differs match no word both. -/
theorem not_matches_both {r r' : OpcodeRow} (w : Word)
    (h : (r.mask &&& r'.mask) &&& (r.val ^^^ r'.val) ≠ 0#32) : ¬ (r.matches w ∧ r'.matches w) := by
  rintro ⟨hw, hw'⟩
  refine h ?_
  rw [← hw, ← hw']
  apply BitVec.eq_of_getLsbD_eq
  intro j _
  simp only [BitVec.getLsbD_and, BitVec.getLsbD_xor, BitVec.getLsbD_zero]
  cases w.getLsbD j <;> cases r.mask.getLsbD j <;> cases r'.mask.getLsbD j <;> rfl

/-- No word matches two rows of the map (`opcodeTable_disjoint`). -/
theorem eq_of_matches {r r' : OpcodeRow} {w : Word} (hr : r ∈ opcodeTable) (hr' : r' ∈ opcodeTable)
    (hw : r.matches w) (hw' : r'.matches w) : r = r' := by
  have hdisj : opcodeTable.Pairwise fun r r' => ¬ (r.matches w ∧ r'.matches w) :=
    opcodeTable_disjoint.imp (not_matches_both w)
  have : Std.Symm fun r r' : OpcodeRow => ¬ (r.matches w ∧ r'.matches w) := ⟨fun _ _ h h' => h h'.symm⟩
  by_contra hne
  exact hdisj.forall hr hr' hne ⟨hw, hw'⟩

/-- The field-value constraints of R85, on a word that matches the row of the mnemonic m. -/
def FieldsLegal (kmax : MaxStage) (m : String) (w : Word) : Prop :=
  (m = "SETC" → w.extractLsb' 16 2 ≠ 3#2) ∧
    (m = "WDCFG" → (w.extractLsb' 0 3).toNat ≤ kmax.toNat) ∧
    (m = "RDREG" → (w.extractLsb' 0 4).toNat ≤ 9)

/-- The constraints on a command's word are those on its operands. -/
theorem wellFormed_iff_fieldsLegal (kmax : MaxStage) (i : Instr) :
    i.WellFormed kmax = true ↔ FieldsLegal kmax i.mnemonic (encode i) := by
  cases i <;> simp [FieldsLegal, Instr.mnemonic, Instr.WellFormed, channel_encode_setc, stage_encode_wdcfg,
    register_encode_rdreg]

/-- A slice that the row's mask covers is the row's. -/
theorem slice_of_matches {r : OpcodeRow} {w : Word} (hw : r.matches w) (lo n : Nat)
    (hmask : r.mask.extractLsb' lo n = BitVec.allOnes n) : w.extractLsb' lo n = r.val.extractLsb' lo n := by
  rw [← hw, BitVec.extractLsb'_and, hmask, BitVec.and_allOnes]

/-- A row without operands matches its one word. -/
theorem decode_of_matches_word {kmax : MaxStage} {r : OpcodeRow} {w : Word} {i : Instr} (hw : r.matches w)
    (hmask : r.mask = BitVec.allOnes 32) (hi : decode kmax r.val = .ok i) : decode kmax w = .ok i := by
  rwa [← hw, hmask, BitVec.and_allOnes] at hi

/-- A word that matches a row and meets its constraint decodes to a command of the row's name (R85): the mask
fixes the opcode and the reserved bits. -/
theorem exists_decode_of_matches {kmax : MaxStage} {r : OpcodeRow} {w : Word} (hr : r ∈ opcodeTable)
    (hw : r.matches w) (hlegal : FieldsLegal kmax r.mnemonic w) :
    ∃ i, decode kmax w = .ok i ∧ i.mnemonic = r.mnemonic := by
  obtain ⟨hch, hk, hrn⟩ := hlegal
  simp only [opcodeTable, List.mem_cons, List.not_mem_nil, or_false] at hr
  rcases hr with rfl | rfl | rfl | rfl | rfl | rfl | rfl | rfl | rfl | rfl | rfl | rfl | rfl
  · exact ⟨.nop, decode_of_matches_word hw rfl rfl, rfl⟩
  · exact ⟨.init, decode_of_matches_word hw rfl rfl, rfl⟩
  · have hop : opcodeField w = 0x02#8 := slice_of_matches hw 24 8 rfl
    have hhigh : w.extractLsb' 18 6 = 0#6 := slice_of_matches hw 18 6 rfl
    have hmid : w.extractLsb' 8 8 = 0#8 := slice_of_matches hw 8 8 rfl
    exact ⟨.setc (w.extractLsb' 16 2) (w.extractLsb' 0 8),
      by simp [decode, hop, decodeC, hhigh, hmid, hch rfl], rfl⟩
  · have hop : opcodeField w = 0x03#8 := slice_of_matches hw 24 8 rfl
    exact ⟨.setrgb (w.extractLsb' 16 8) (w.extractLsb' 8 8) (w.extractLsb' 0 8),
      by simp [decode, hop, decodeP], rfl⟩
  · exact ⟨.tx, decode_of_matches_word hw rfl rfl, rfl⟩
  · exact ⟨.cli, decode_of_matches_word hw rfl rfl, rfl⟩
  · exact ⟨.sei, decode_of_matches_word hw rfl rfl, rfl⟩
  · exact ⟨.halt, decode_of_matches_word hw rfl rfl, rfl⟩
  · have hop : opcodeField w = 0x08#8 := slice_of_matches hw 24 8 rfl
    have hres : w.extractLsb' 3 21 = 0#21 := slice_of_matches hw 3 21 rfl
    have hnot := Nat.not_lt.2 (hk rfl)
    exact ⟨.wdcfg (w.extractLsb' 0 3), by simp only [decode, hop, decodeK, hres, hnot]; rfl, rfl⟩
  · exact ⟨.wdstop, decode_of_matches_word hw rfl rfl, rfl⟩
  · have hop : opcodeField w = 0x0A#8 := slice_of_matches hw 24 8 rfl
    have hres : w.extractLsb' 16 8 = 0#8 := slice_of_matches hw 16 8 rfl
    exact ⟨.nap (w.extractLsb' 0 16), by simp [decode, hop, decodeT, hres], rfl⟩
  · exact ⟨.sample, decode_of_matches_word hw rfl rfl, rfl⟩
  · have hop : opcodeField w = 0x0C#8 := slice_of_matches hw 24 8 rfl
    have hres : w.extractLsb' 4 20 = 0#20 := slice_of_matches hw 4 20 rfl
    have hnot := Nat.not_lt.2 (hrn rfl)
    exact ⟨.rdreg (w.extractLsb' 0 4), by simp only [decode, hop, decodeR, hres, hnot]; rfl, rfl⟩

/-- Settles O29: every command's word matches the row of its name (`matchesRow`), a word of a row decodes when
it meets the constraint (`exists_decode_of_matches`), and rows are disjoint (`eq_of_matches`). -/
theorem legalWordsMatchTable : Obligations.LegalWordsMatchTable := by
  intro kmax w
  refine ⟨fun i hi => ?_, fun r hr hw hch hk hrn => exists_decode_of_matches hr hw ⟨hch, hk, hrn⟩,
    fun r hr r' hr' => eq_of_matches hr hr'⟩
  obtain ⟨rfl, hwf⟩ := encodeOfDecode kmax w i hi
  obtain ⟨r, hr, hm, hw⟩ := matchesRow i
  refine ⟨r, hr, hm, hw, ?_⟩
  rw [hm]
  exact (wellFormed_iff_fieldsLegal kmax i).1 hwf

end Sys2Proof
end
section
/-! PROOF. What the assembler gives (R90 to R92): commands that are well-formed, so that their words are legal, and
the words of the operand table. -/
namespace Sys2Proof.Machine

/-! ### Assembled commands are well-formed -/

/-- What is assembled, if anything, is well-formed commands. -/
def GivesWellFormed (kmax : MaxStage) (r : Except AsmError (List Instr)) : Prop :=
  ∀ is, r = .ok is → is.all (Instr.WellFormed kmax) = true

variable {kmax : MaxStage}

theorem givesWellFormed_ok {is : List Instr} (h : is.all (Instr.WellFormed kmax) = true) :
    GivesWellFormed kmax (.ok is) := by
  rintro _ ⟨⟩
  exact h

theorem givesWellFormed_error (e : AsmError) : GivesWellFormed kmax (.error e) := by
  rintro _ ⟨⟩

theorem givesWellFormed_ite {c : Prop} [Decidable c] {r r' : Except AsmError (List Instr)}
    (h : GivesWellFormed kmax r) (h' : GivesWellFormed kmax r') :
    GivesWellFormed kmax (if c then r else r') := by
  split <;> assumption

/-- What follows a step that can fail is well-formed when it is for every result of that step. -/
theorem givesWellFormed_bind {α : Type} {x : Except AsmError α} {f : α → Except AsmError (List Instr)}
    (h : ∀ a, x = .ok a → GivesWellFormed kmax (f a)) : GivesWellFormed kmax (x >>= f) := by
  cases x with
  | error e => exact givesWellFormed_error e
  | ok a => exact h a rfl

theorem le_of_numberOperand {max n : Nat} {cs : List Char} (h : numberOperand max cs = .ok n) : n ≤ max := by
  unfold numberOperand at h
  split at h
  · split at h <;> cases h
    assumption
  · cases h

theorem le_of_registerOperand {n : Nat} {cs : List Char} (h : registerOperand cs = .ok n) : n ≤ 9 := by
  unfold registerOperand at h
  split at h
  · rename_i hn
    cases h
    exact Nat.le_of_lt_succ (List.findIdx?_eq_some_iff_findIdx_eq.1 hn).1
  · exact le_of_numberOperand h

theorem channel_legal_ofNat {n : Nat} (h : n ≤ 2) : Channel.legal (BitVec.ofNat 2 n) := by
  interval_cases n <;> decide

theorem stage_legal_ofNat {n : Nat} (h : n ≤ kmax.toNat) : Stage.legal kmax (BitVec.ofNat 3 n) := by
  rw [Stage.legal, BitVec.toNat_ofNat]
  exact (Nat.mod_le _ _).trans h

theorem register_legal_ofNat {n : Nat} (h : n ≤ 9) : RegNum.legal (BitVec.ofNat 4 n) := by
  rw [RegNum.legal, BitVec.toNat_ofNat]
  exact (Nat.mod_le _ _).trans h

theorem givesWellFormed_command (m : List Char) (ops : List (List Char)) :
    GivesWellFormed kmax (assembleCommand kmax m ops) := by
  have plain : ∀ is : List Instr, is.all (Instr.WellFormed kmax) = true →
      GivesWellFormed kmax (if ops.isEmpty then .ok is else .error .operandCount) :=
    fun is h => givesWellFormed_ite (givesWellFormed_ok h) (givesWellFormed_error _)
  unfold assembleCommand
  refine givesWellFormed_ite (plain [.nop] rfl) ?_
  refine givesWellFormed_ite (plain [.init] rfl) ?_
  refine givesWellFormed_ite ?setc ?_
  case setc =>
    split
    · exact givesWellFormed_bind fun ch hch => givesWellFormed_bind fun v _ => givesWellFormed_ok (by
        simpa [Instr.WellFormed] using channel_legal_ofNat (le_of_numberOperand hch))
    · exact givesWellFormed_error _
  refine givesWellFormed_ite ?setrgb ?_
  case setrgb =>
    split
    · exact givesWellFormed_bind fun _ _ => givesWellFormed_bind fun _ _ => givesWellFormed_bind fun _ _ =>
        givesWellFormed_ok rfl
    · exact givesWellFormed_error _
  refine givesWellFormed_ite (plain [.tx] rfl) ?_
  refine givesWellFormed_ite (plain [.cli] rfl) ?_
  refine givesWellFormed_ite (plain [.sei] rfl) ?_
  refine givesWellFormed_ite (plain [.halt] rfl) ?_
  refine givesWellFormed_ite ?wdcfg ?_
  case wdcfg =>
    split
    · exact givesWellFormed_bind fun k hk => givesWellFormed_ok (by
        simpa [Instr.WellFormed] using stage_legal_ofNat (le_of_numberOperand hk))
    · exact givesWellFormed_error _
  refine givesWellFormed_ite (plain [.wdstop] rfl) ?_
  refine givesWellFormed_ite ?nap ?_
  case nap =>
    split
    · exact givesWellFormed_bind fun _ _ => givesWellFormed_ok rfl
    · exact givesWellFormed_error _
  refine givesWellFormed_ite (plain [.sample] rfl) ?_
  refine givesWellFormed_ite ?rdreg ?_
  case rdreg =>
    split
    · exact givesWellFormed_bind fun rn hrn => givesWellFormed_ok (by
        simpa [Instr.WellFormed] using register_legal_ofNat (le_of_registerOperand hrn))
    · exact givesWellFormed_error _
  refine givesWellFormed_ite ?pseudoShow ?_
  case pseudoShow =>
    split
    · exact givesWellFormed_bind fun _ _ => givesWellFormed_bind fun _ _ => givesWellFormed_bind fun _ _ =>
        givesWellFormed_ok rfl
    · exact givesWellFormed_error _
  refine givesWellFormed_ite (plain pseudoOff rfl) ?_
  refine givesWellFormed_ite (plain pseudoWaiti rfl) ?_
  refine givesWellFormed_ite ?stage (givesWellFormed_error _)
  case stage =>
    split
    · exact givesWellFormed_bind fun k hk => givesWellFormed_ok (by
        simpa [pseudoStage, Instr.WellFormed] using stage_legal_ofNat (le_of_numberOperand hk))
    · exact givesWellFormed_error _

theorem givesWellFormed_line (line : List Char) : GivesWellFormed kmax (assembleLine kmax line) :=
  givesWellFormed_bind fun _ _ => givesWellFormed_ite (givesWellFormed_ok rfl) (givesWellFormed_command _ _)

theorem givesWellFormed_lines (lines : List (List Char)) :
    GivesWellFormed kmax (assembleLines kmax lines) := by
  induction lines with
  | nil => exact givesWellFormed_ok rfl
  | cons line lines ih =>
    exact givesWellFormed_bind fun is his => givesWellFormed_bind fun rest hrest => givesWellFormed_ok (by
      rw [List.all_append, givesWellFormed_line line is his, ih rest hrest]; rfl)

/-- Settles O32: the commands assembled are well-formed, and the word of a well-formed command decodes to it. -/
theorem assembledWordsAreLegal : Obligations.AssembledWordsAreLegal := by
  intro kmax src ws h w hw
  unfold assemble at h
  cases hl : assembleLines kmax (splitAtChar '\n' src) with
  | error e => rw [hl] at h; cases h
  | ok is =>
    rw [hl] at h
    cases h
    obtain ⟨i, hi, rfl⟩ := List.mem_map.1 hw
    have hwf := List.all_eq_true.1 (givesWellFormed_lines _ is hl) i hi
    exact ⟨i, decodeOfEncode kmax i hwf, rfl⟩

/-! ### The operand table -/

/-! The words of the table as the opcode and the operands, each shifted to its field (R77). -/

theorem encode_setc (ch : Channel) (v : Byte) :
    encode (.setc ch v) = 0x02000000#32 ||| ch.setWidth 32 <<< 16 ||| v.setWidth 32 := by
  apply BitVec.eq_of_getLsbD_eq
  intro j hj
  rw [getLsbD_encode, getLsbD_fieldBits_setc]
  interval_cases j <;> simp [Instr.opcode]

theorem encode_setrgb (v0 v1 v2 : Byte) :
    encode (.setrgb v0 v1 v2) =
      0x03000000#32 ||| v0.setWidth 32 <<< 16 ||| v1.setWidth 32 <<< 8 ||| v2.setWidth 32 := by
  apply BitVec.eq_of_getLsbD_eq
  intro j hj
  rw [getLsbD_encode, getLsbD_fieldBits_setrgb]
  interval_cases j <;> simp [Instr.opcode]

theorem encode_wdcfg (k : Stage) : encode (.wdcfg k) = 0x08000000#32 ||| k.setWidth 32 := by
  revert k
  decide

theorem encode_nap (t : Ticks) : encode (.nap t) = 0x0A000000#32 ||| t.setWidth 32 := by
  apply BitVec.eq_of_getLsbD_eq
  intro j hj
  rw [getLsbD_encode, getLsbD_fieldBits_nap]
  interval_cases j <;> simp [Instr.opcode]

theorem encode_rdreg (rn : RegNum) : encode (.rdreg rn) = 0x0C000000#32 ||| rn.setWidth 32 := by
  revert rn
  decide

variable {x y z : List Char} {a b c : Nat}

theorem encode_setc_ofNat (ha : a ≤ 2) (hb : b ≤ 255) :
    encode (.setc (BitVec.ofNat 2 a) (BitVec.ofNat 8 b)) =
      0x02000000#32 ||| BitVec.ofNat 32 a <<< 16 ||| BitVec.ofNat 32 b := by
  simp (disch := omega) only [encode_setc, BitVec.setWidth_ofNat_of_le_of_lt]

theorem encode_setrgb_ofNat (ha : a ≤ 255) (hb : b ≤ 255) (hc : c ≤ 255) :
    encode (.setrgb (BitVec.ofNat 8 a) (BitVec.ofNat 8 b) (BitVec.ofNat 8 c)) =
      0x03000000#32 ||| BitVec.ofNat 32 a <<< 16 ||| BitVec.ofNat 32 b <<< 8 ||| BitVec.ofNat 32 c := by
  simp (disch := omega) only [encode_setrgb, BitVec.setWidth_ofNat_of_le_of_lt]

theorem encode_wdcfg_ofNat (ha : a ≤ 7) :
    encode (.wdcfg (BitVec.ofNat 3 a)) = 0x08000000#32 ||| BitVec.ofNat 32 a := by
  simp (disch := omega) only [encode_wdcfg, BitVec.setWidth_ofNat_of_le_of_lt]

theorem encode_nap_ofNat (ha : a ≤ 65535) :
    encode (.nap (BitVec.ofNat 16 a)) = 0x0A000000#32 ||| BitVec.ofNat 32 a := by
  simp (disch := omega) only [encode_nap, BitVec.setWidth_ofNat_of_le_of_lt]

theorem encode_rdreg_ofNat (ha : a ≤ 9) :
    encode (.rdreg (BitVec.ofNat 4 a)) = 0x0C000000#32 ||| BitVec.ofNat 32 a := by
  simp (disch := omega) only [encode_rdreg, BitVec.setWidth_ofNat_of_le_of_lt]

/-! ### Commands whose operands are numbers -/

/-- A mnemonic with operands that are numbers assembles to the words of its commands (R90). -/
theorem assemble_numbers (m : List Char) (ops : List (List Char)) (hm : m.all isPlainChar = true) (hm' : m ≠ [])
    (hops : ∀ x ∈ ops, ∃ n, parseNumber x = some n) (hne : ops ≠ []) :
    assemble kmax (m ++ ' ' :: joinOperands ops) = (assembleCommand kmax m ops).map (List.map encode) :=
  assemble_operands kmax m ops (isPlain_of_all m hm) hm'
    (fun x hx => (hops x hx).elim fun n hn => isPlain_of_parseNumber x n hn) hne

/-- The command of a number goes on with it when it is in range (R91). -/
theorem numberOperand_bind {α : Type} {max : Nat} (hx : parseNumber x = some a) (f : Nat → Except AsmError α) :
    (numberOperand max x >>= f) = if a ≤ max then f a else .error .operandRange := by
  rw [numberOperand_of_parseNumber max x a hx]
  split <;> rfl

/-- A command of one number. -/
theorem assemble_number {m : List Char} {max : Nat} {f : Nat → List Instr} {ws : List Word}
    (hm : m.all isPlainChar = true) (hm' : m ≠ []) (hx : parseNumber x = some a)
    (hcommand : assembleCommand kmax m [x] = (do return f (← numberOperand max x)))
    (hwords : a ≤ max → (f a).map encode = ws) :
    assemble kmax (m ++ ' ' :: x) = if a ≤ max then .ok ws else .error .operandRange := by
  show assemble kmax (m ++ ' ' :: joinOperands [x]) = _
  rw [assemble_numbers m [x] hm hm' (by simp [hx]) (by simp), hcommand, numberOperand_bind hx]
  split
  · rw [← hwords ‹_›]
    rfl
  · rfl

/-- A command of three bytes. -/
theorem assemble_bytes {m : List Char} {f : Byte → Byte → Byte → List Instr} {ws : List Word}
    (hm : m.all isPlainChar = true) (hm' : m ≠ []) (hx : parseNumber x = some a) (hy : parseNumber y = some b)
    (hz : parseNumber z = some c)
    (hcommand : assembleCommand kmax m [x, y, z] = (do
      let a ← numberOperand 255 x
      let b ← numberOperand 255 y
      let c ← numberOperand 255 z
      return f (BitVec.ofNat 8 a) (BitVec.ofNat 8 b) (BitVec.ofNat 8 c)))
    (hwords : a ≤ 255 → b ≤ 255 → c ≤ 255 →
      (f (BitVec.ofNat 8 a) (BitVec.ofNat 8 b) (BitVec.ofNat 8 c)).map encode = ws) :
    assemble kmax (m ++ ' ' :: x ++ ", ".toList ++ y ++ ", ".toList ++ z) =
      if a ≤ 255 ∧ b ≤ 255 ∧ c ≤ 255 then .ok ws else .error .operandRange := by
  have htext : m ++ ' ' :: x ++ ", ".toList ++ y ++ ", ".toList ++ z = m ++ ' ' :: joinOperands [x, y, z] := by
    simp [joinOperands]
  rw [htext, assemble_numbers m [x, y, z] hm hm' (by simp [hx, hy, hz]) (by simp), hcommand,
    numberOperand_bind hx, numberOperand_bind hy, numberOperand_bind hz]
  simp only [← ite_and]
  split
  case isTrue h =>
    obtain ⟨ha, hb, hc⟩ := h
    rw [← hwords ha hb hc]
    rfl
  case isFalse => rfl

theorem assemble_setc (hx : parseNumber x = some a) (hy : parseNumber y = some b) :
    assemble kmax ("SETC ".toList ++ x ++ ", ".toList ++ y) =
      if a ≤ 2 ∧ b ≤ 255 then .ok [0x02000000#32 ||| BitVec.ofNat 32 a <<< 16 ||| BitVec.ofNat 32 b]
      else .error .operandRange := by
  have htext : "SETC ".toList ++ x ++ ", ".toList ++ y = "SETC".toList ++ ' ' :: joinOperands [x, y] := by
    simp [joinOperands]
  rw [htext, assemble_numbers _ _ (by decide) (by decide) (by simp [hx, hy]) (by simp), assembleCommand_setc,
    numberOperand_bind hx, numberOperand_bind hy, ← ite_and]
  split
  case isTrue h =>
    obtain ⟨ha, hb⟩ := h
    rw [← encode_setc_ofNat ha hb]
    rfl
  case isFalse => rfl

/-- What RDREG makes of a number (R91). -/
theorem assembleCommand_rdreg_number (hx : parseNumber x = some a) :
    assembleCommand kmax "RDREG".toList [x] = (do return [.rdreg (BitVec.ofNat 4 (← numberOperand 9 x))]) := by
  rw [assembleCommand_rdreg, registerOperand_of_parseNumber x a hx, numberOperand_of_parseNumber 9 x a hx]

/-- Settles O33: the lines without a number by running the assembler on them, the others from what the assembler
makes of numbers and the words of the table. -/
theorem assemblerFollowsOperandTable : Obligations.AssemblerFollowsOperandTable := by
  intro kmax
  have hkmax : kmax.toNat ≤ 7 := by cases kmax <;> decide
  refine ⟨by cases kmax <;> decide, fun x y z a b c hx hy hz => ⟨assemble_setc hx hy, ?setrgb, ?pseudoShow, ?wdcfg,
    ?stage, ?nap, ?rdreg⟩⟩
  case setrgb =>
    exact assemble_bytes (m := "SETRGB".toList) (f := fun a b c => [.setrgb a b c]) (by decide) (by decide)
      hx hy hz (assembleCommand_setrgb kmax x y z)
      fun ha hb hc => congrArg (· :: []) (encode_setrgb_ofNat ha hb hc)
  case pseudoShow =>
    exact assemble_bytes (m := "SHOW".toList) (f := pseudoShow) (by decide) (by decide)
      hx hy hz (assembleCommand_show kmax x y z)
      fun ha hb hc => congrArg (· :: [encode .tx]) (encode_setrgb_ofNat ha hb hc)
  case wdcfg =>
    exact assemble_number (m := "WDCFG".toList) (by decide) (by decide) hx (assembleCommand_wdcfg kmax x)
      fun ha => congrArg (· :: []) (encode_wdcfg_ofNat (ha.trans hkmax))
  case stage =>
    exact assemble_number (m := "STAGE".toList) (by decide) (by decide) hx (assembleCommand_stage kmax x)
      fun ha => congrArg (· :: [encode .sei, encode .halt, encode .cli]) (encode_wdcfg_ofNat (ha.trans hkmax))
  case nap =>
    exact assemble_number (m := "NAP".toList) (by decide) (by decide) hx (assembleCommand_nap kmax x)
      fun ha => congrArg (· :: []) (encode_nap_ofNat ha)
  case rdreg =>
    exact assemble_number (m := "RDREG".toList) (by decide) (by decide) hx (assembleCommand_rdreg_number hx)
      fun ha => congrArg (· :: []) (encode_rdreg_ofNat ha)

end Sys2Proof.Machine
end
section
/-! PROOF. What the machine does with what decoding refuses (R87, R151): the meanings of illegal operands, and the
fetch of an illegal word. -/
namespace Sys2Proof.Machine

variable {s : State} {w : Word}

/-- A number above 9 names no register (R39). -/
theorem State.reg_of_not_legal {rn : RegNum} (h : ¬ RegNum.legal rn) : s.reg rn = .reserved := by
  obtain ⟨n, hn⟩ : ∃ n, rn.toNat = n + 10 := ⟨rn.toNat - 10, by omega⟩
  rw [State.reg, hn]
  rfl

/-- Settles O14: the three commands that can be ill-formed test their operand. -/
theorem illegalOperandsFault : Obligations.IllegalOperandsFault := by
  intro s i hi
  cases i with
  | setc ch v =>
    have hch : ¬ Channel.legal ch := of_decide_eq_false hi
    rw [exec, execSetc, if_neg hch, State.raise]
  | wdcfg k =>
    have hk : ¬ Stage.legal s.cfg.kmax k := of_decide_eq_false hi
    rw [exec, execWdcfg, if_neg hk, State.raise]
  | rdreg rn =>
    have hrn : ¬ RegNum.legal rn := of_decide_eq_false hi
    simp only [exec, execRdreg, State.reg_of_not_legal hrn, State.raise]
  | _ => cases hi

/-- The engine's turn at a fetch (R151). -/
theorem step_fetch (ht : s.turn = .engine) (hw : s.Fetching w) : step s = fetchStep w s.passTurn := by
  obtain ⟨hf, hd, hh, hq, hw⟩ := (State.passTurn_fetching w).2 hw
  rw [step, agentStep, ht]
  exact engineTurn_fetch hf hd hh hq hw

/-- Settles O15: the fetch step of a word that decodes to no command raises `Illegal`. -/
theorem illegalWordFaultsAtFetch : Obligations.IllegalWordFaultsAtFetch := by
  intro s w ht hw hi
  rw [step_fetch ht hw, fetchStep, State.passTurn_cfg]
  cases hd : decode s.cfg.kmax w with
  | ok i => exact absurd hd (hi i)
  | error e => simp only [State.raise, State.passTurn_cp]

end Sys2Proof.Machine
end
section
/-! PROOF. The transmitter: the color that SETC and SETRGB write (R95, R97), what TX does in each of its three cases
(R104), what a receiver reads from the waveform (R98 to R100), and what the LED makes of it (R106). -/
namespace Sys2Proof.Machine

variable {s : State} {p : Params} {c0 c1 c2 : Byte}

/-! ### SETC and SETRGB -/

/-- SETC writes the channel it names and no other (R95). -/
theorem Color.set_of_legal (c : Color) {ch : Channel} (v : Byte) (h : Channel.legal ch) :
    c.set ch v = ⟨if ch = 0#2 then some v else c.c0, if ch = 1#2 then some v else c.c1,
      if ch = 2#2 then some v else c.c2⟩ := by
  obtain rfl | rfl | rfl : ch = 0#2 ∨ ch = 1#2 ∨ ch = 2#2 := by
    revert ch
    decide
  all_goals rfl

/-- Settles O4: the word (`encode_setc`), the channel written (`Color.set_of_legal`), and the decoder's refusal of
the word with `CH` = 3 (`decode_encode_setc`). -/
theorem setcWritesOneChannel : Obligations.SetcWritesOneChannel := by
  refine fun s ch v => ⟨encode_setc ch v, fun h => ?_, fun h => ?_⟩
  · rw [exec, execSetc, if_pos h, Color.set_of_legal s.color v h]
    rfl
  · rw [decode_encode_setc, if_pos h]

/-- Settles O5: the word (`encode_setrgb`), and SETRGB's one update of the state. -/
theorem setrgbWritesAllChannels : Obligations.SetrgbWritesAllChannels :=
  fun _ v0 v1 v2 => ⟨encode_setrgb v0 v1 v2, rfl⟩

/-! ### The three cases of TX -/

theorem encode_tx : encode .tx = 0x04000000#32 := by decide

theorem exec_tx_not_init (hd : s.ddata = false) :
    exec .tx s = .next { s with fault := some ⟨.notInit, s.cp, 0x04000000#32, none⟩ } := by
  simp [exec, execTx, hd, State.raise, encode_tx]

theorem exec_tx_unwritten (hd : s.ddata = true) {rn : RegNum} (h : s.color.firstUnwritten = some rn) :
    exec .tx s = .next { s with fault := some ⟨.unwritten, s.cp, 0x04000000#32, some rn⟩ } := by
  rw [exec, execTx, if_pos hd]
  split
  case h_1 h0 h1 h2 => simp [Color.firstUnwritten, h0, h1, h2] at h
  case h_2 => rw [h, State.raise, encode_tx]

theorem exec_tx_written (hd : s.ddata = true) (hc : s.color = ⟨some c0, some c1, some c2⟩) :
    exec .tx s = .next (s.transmit c0 c1 c2) := by
  simp only [exec, execTx, if_pos hd, hc]

/-- A color with a channel that is ⊥ has a first one. -/
theorem Color.exists_firstUnwritten {c : Color} (h : c.c0 = none ∨ c.c1 = none ∨ c.c2 = none) :
    ∃ rn, c.firstUnwritten = some rn := by
  unfold Color.firstUnwritten
  split_ifs with h0 h1 h2
  · exact ⟨_, rfl⟩
  · exact ⟨_, rfl⟩
  · exact ⟨_, rfl⟩
  · simp [← Option.isNone_iff_eq_none, h0, h1, h2] at h

/-- Settles O13: in each clause the channel named is the first that is ⊥ (`exec_tx_unwritten`). -/
theorem txUnwrittenColorFaults : Obligations.TxUnwrittenColorFaults :=
  fun s hd => ⟨fun h0 => exec_tx_unwritten hd (by simp [Color.firstUnwritten, h0]),
    fun h0 h1 => exec_tx_unwritten hd (by simp [Color.firstUnwritten, h0, h1]),
    fun h0 h1 h2 => exec_tx_unwritten hd (by simp [Color.firstUnwritten, h0, h1, h2])⟩

/-- The three channels of a frame as the entries of a list. -/
theorem frameByte_eq_getD (c0 c1 c2 : Byte) {n : Nat} (hn : n < 3) :
    frameByte c0 c1 c2 n = [c0, c1, c2].getD n 0#8 := by
  interval_cases n <;> rfl

/-- The segments of a frame, bit by bit, channel 0 first and the most significant bit first (R98, R100). -/
theorem flatMap_bitEvents_frameBits (p : Params) (c0 c1 c2 : Byte) :
    (frameBits c0 c1 c2).flatMap (bitEvents p) = (List.range 24).flatMap fun i =>
      let high := if ([c0, c1, c2].getD (i / 8) 0#8).getLsbD (7 - i % 8) then p.t1h else p.t0h
      [.seg true high, .seg false (p.tbit - high)] := by
  rw [frameBits, List.flatMap_map]
  refine List.flatMap_congr fun i hi => ?_
  have hlt : i < 24 := List.mem_range.1 hi
  rw [frameByte_eq_getD c0 c1 c2 (by omega)]
  rfl

/-- Settles O7: the cases of TX (`exec_tx_not_init`, `exec_tx_unwritten`, `exec_tx_written`); in the last the whole
effect is that of `State.transmit_eq`, with the segments of `flatMap_bitEvents_frameBits`. -/
theorem txSendsFrame : Obligations.TxSendsFrame := by
  refine ⟨encode_tx, fun s => ⟨exec_tx_not_init, fun hd h => ?_, fun c0 c1 c2 hd hc => ?_⟩⟩
  · obtain ⟨rn, hrn⟩ := Color.exists_firstUnwritten h
    exact ⟨rn, exec_tx_unwritten hd hrn⟩
  · rw [exec_tx_written hd hc, State.transmit_eq, flatMap_bitEvents_frameBits]

/-! ### The segments of a list of bits -/

theorem length_flatMap_bitEvents (bs : List Bool) : (bs.flatMap (bitEvents p)).length = 2 * bs.length := by
  simp [bitEvents, List.length_flatMap, Nat.mul_comm]

/-- A bit's high time lies strictly between 0 and the bit period (R9, R98). -/
theorem highCycles_bounds (hp : p.wf) (b : Bool) : 0 < highCycles p b ∧ highCycles p b < p.tbit := by
  obtain ⟨h0, h01, h1, -⟩ := hp
  cases b <;> simp only [highCycles, if_true, Bool.false_eq_true, if_false] <;> omega

/-- The high times of a 0 and a 1 differ, so the receiver tells them apart (R9, R98). -/
theorem highCycles_eq_t1h_iff (hp : p.wf) (b : Bool) : highCycles p b = p.t1h ↔ b = true := by
  obtain ⟨-, h01, -⟩ := hp
  cases b
  · simpa [highCycles] using h01.ne
  · simp [highCycles]

theorem seg_of_mem_bitEvents (hp : p.wf) {b : Bool} {e : Event} (he : e ∈ bitEvents p b) :
    ∃ level cycles, e = .seg level cycles ∧ 0 < cycles := by
  obtain ⟨hpos, hlt⟩ := highCycles_bounds hp b
  simp only [bitEvents, List.mem_cons, List.not_mem_nil, or_false] at he
  rcases he with rfl | rfl
  · exact ⟨true, _, rfl, hpos⟩
  · exact ⟨false, _, rfl, Nat.sub_pos_of_lt hlt⟩

/-- Every bit lasts one bit period (R98, R99). -/
theorem segCycles_bits (hp : p.wf) (bs : List Bool) :
    segCycles (bs.flatMap (bitEvents p)) = bs.length * p.tbit := by
  induction bs with
  | nil => simp [segCycles]
  | cons b bs ih =>
    have hlt := (highCycles_bounds hp b).2
    show highCycles p b + (lowCycles p b + segCycles (bs.flatMap (bitEvents p))) = (b :: bs).length * p.tbit
    rw [ih, lowCycles, List.length_cons, Nat.add_one_mul]
    omega

/-- The receiver reads back the bits that were sent (R98). -/
theorem receivedBits_bits (hp : p.wf) (bs : List Bool) :
    receivedBits p (bs.flatMap (bitEvents p)) = bs := by
  induction bs with
  | nil => rfl
  | cons b bs ih =>
    show decide (highCycles p b = p.t1h) :: receivedBits p (bs.flatMap (bitEvents p)) = b :: bs
    simp [ih, highCycles_eq_t1h_iff hp]

/-! ### The value of a frame's bits -/

/-- The bits read on an accumulator stand above it. -/
theorem foldl_bitsValue (bs : List Bool) (n : Nat) :
    bs.foldl (fun n b => 2 * n + b.toNat) n = n * 2 ^ bs.length + bitsValue bs := by
  induction bs generalizing n with
  | nil => simp [bitsValue]
  | cons b bs ih =>
    rw [bitsValue, List.foldl_cons, List.foldl_cons, ih, ih (2 * 0 + b.toNat), List.length_cons]
    ring

theorem bitsValue_cons (b : Bool) (bs : List Bool) :
    bitsValue (b :: bs) = b.toNat * 2 ^ bs.length + bitsValue bs := by
  rw [bitsValue, List.foldl_cons, foldl_bitsValue]
  simp

/-- The n lowest bits of a vector, the most significant first, have its value modulo 2^n (R62). -/
theorem bitsValue_getLsbD {w : Nat} (x : BitVec w) (n : Nat) :
    bitsValue ((List.range n).map fun i => x.getLsbD (n - 1 - i)) = x.toNat % 2 ^ n := by
  induction n with
  | zero => simp [bitsValue, Nat.mod_one]
  | succ n ih =>
    have htail : ∀ i, n + 1 - 1 - (i + 1) = n - 1 - i := by omega
    rw [List.range_succ_eq_map, List.map_cons, List.map_map, bitsValue_cons]
    simp only [Function.comp_def, Nat.succ_eq_add_one, htail, ih, List.length_map, List.length_range]
    rw [Nat.mod_pow_succ, show n + 1 - 1 - 0 = n by omega, BitVec.getLsbD, Nat.toNat_testBit]
    ring

/-- The bits of a frame have the value of the 24-bit immediate (R64, R100). -/
theorem bitsValue_frameBits (c0 c1 c2 : Byte) :
    bitsValue (frameBits c0 c1 c2) = c0.toNat * 65536 + c1.toNat * 256 + c2.toNat := by
  have hbits : frameBits c0 c1 c2 = (List.range 24).map fun i => (c0 ++ c1 ++ c2).getLsbD (24 - 1 - i) := by
    rw [frameBitsAreImmediateInOrder]
    refine List.map_congr_left fun i _ => ?_
    rw [getLsbD_encode, if_pos (by omega)]
    rfl
  have hvalue : (c0 ++ c1 ++ c2).toNat = c0.toNat * 65536 + c1.toNat * 256 + c2.toNat := by
    rw [BitVec.toNat_append, BitVec.toNat_append, ← Nat.shiftLeft_add_eq_or_of_lt c1.isLt,
      ← Nat.shiftLeft_add_eq_or_of_lt c2.isLt, Nat.shiftLeft_eq, Nat.shiftLeft_eq]
    ring
  rw [hbits, bitsValue_getLsbD, Nat.mod_eq_of_lt (c0 ++ c1 ++ c2).isLt, hvalue]

/-- Settles O35: the segments are those of the frame's 24 bits, which the receiver reads back. -/
theorem waveformCarriesColor : Obligations.WaveformCarriesColor := by
  intro s c0 c1 c2 hp hd hc
  refine ⟨_, (frameBits c0 c1 c2).flatMap (bitEvents s.cfg), exec_tx_written hd hc, by rw [State.transmit_eq],
    ?length, ?positive, ?duration, ?bits, ?value⟩
  case length => rw [length_flatMap_bitEvents, frameBits_length]
  case positive =>
    intro e he
    obtain ⟨b, -, hb⟩ := List.mem_flatMap.1 he
    exact seg_of_mem_bitEvents hp hb
  case duration => rw [segCycles_bits hp, frameBits_length]
  case bits => rw [receivedBits_bits hp, frameBits_length]
  case value => rw [receivedBits_bits hp, bitsValue_frameBits]

/-! ### What the LED makes of a frame -/

/-- Segments do not change whether the LED's mark is sound (R202). -/
theorem LedView.sound_bits (bs : List Bool) (v : LedView) :
    ((bs.flatMap (bitEvents p)).foldl LedView.see v).sound = v.sound := by
  induction bs generalizing v with
  | nil => rfl
  | cons b bs ih => exact ih { v with sent := true }

/-- The frame that the LED would take after TX: the one sent, when it is fresh and the mark is sound (R106). -/
theorem State.transmit_frame (hs : (s.trace.foldl LedView.see LedView.launch).sound = true) :
    ((s.transmit c0 c1 c2).trace.foldl LedView.see LedView.launch).frame =
      if s.latchok then some (c0, c1, c2) else none := by
  simp [State.transmit_eq, List.foldl_append, LedView.see, LedView.sound_bits, hs]

theorem State.latchedFrame_of_not_latchok (h : s.latchok = false) : s.latchedFrame = none := by
  rw [State.latchedFrame, h, if_neg Bool.false_ne_true]

/-- An expiry of a countdown armed since shows the LED's frame latched (R29, R106). -/
theorem State.latchedFrame_arm_expire (u : State) (k : Stage) :
    (u.arm k).expire.latchedFrame = (u.trace.foldl LedView.see LedView.launch).frame := by
  simp [State.latchedFrame, LedView.see]

/-- Settles O36: TX leaves `LATCHOK` and `WDFRESH` at 0, so that nothing is latched until a countdown armed after it
expires; then the frame is the one that `State.transmit_frame` gives. -/
theorem latchedFreshFrameIsShown : Obligations.LatchedFreshFrameIsShown := by
  intro s u c0 c1 c2 k tick hd hc hsound hu
  rw [exec_tx_written hd hc] at hu
  cases hu
  have hcfg : (s.transmit c0 c1 c2).cfg = s.cfg := by rw [State.transmit_eq]
  have hsent : (s.transmit c0 c1 c2).latchedFrame = none :=
    State.latchedFrame_of_not_latchok (by rw [State.transmit_eq])
  have hstale : (s.transmit c0 c1 c2).expire.latchedFrame = none :=
    State.latchedFrame_of_not_latchok (by simp [State.transmit_eq])
  refine ⟨fun htick hbits c => ⟨fun h => ?_, fun h => ?_, ?_⟩, fun hno c h => ?_⟩
  · simp [State.LedShows, hsent] at h
  · simp [State.LedShows, hstale] at h
  · simp [State.LedShows, State.latchedFrame_arm_expire, State.transmit_frame hsound, hcfg, htick, hbits,
      eq_comm (a := c)]
  · obtain ⟨htick, hbits, -⟩ := h
    rw [State.expire_cfg, State.arm_cfg, hcfg] at htick hbits
    exact hno.elim (· htick) (· hbits)

end Sys2Proof.Machine
end
section
/-! PROOF. One turn of a run whose schedule lays it down (R70, R151): an expiry, a service, a micro-operation, each
as a step and as the first step of a run. -/
namespace Sys2Proof.Machine

variable {s : State} {r : Result} {n : Nat} {ts : List Turn}

/-! ### Steps -/

/-- CDT's turn when it has a step (R119). -/
theorem step_expires (ht : s.turn = .expire) (hf : s.fault = none) (he : s.expireEnabled = true) :
    step s = .next s.passTurn.expire := by
  have he' : s.passTurn.expireEnabled = true := by simpa [State.expireEnabled] using he
  simp [step, agentStep, ht, countdownTurn, hf, he']

/-- CDT's turn when it has no step (log 5). -/
theorem step_countdown_passes (ht : s.turn = .expire) (hf : s.fault = none) (he : s.expireEnabled = false) :
    step s = .next s.passTurn := by
  have he' : s.passTurn.expireEnabled = false := by simpa [State.expireEnabled] using he
  simp [step, agentStep, ht, countdownTurn, hf, he']

/-- The engine's turn when a service is due (R151, R176). -/
theorem step_serves (ht : s.turn = .engine) (hd : s.serviceDue = true) :
    step s = .next (s.passTurn.service s.highestPending) := by
  have hf : s.fault = none := (s.serviceDue_iff.1 hd).1
  simp [step, agentStep, ht, engineTurn, State.highestPending, hf, hd]

/-- No service is due while the countdown's interrupt is masked or not pending, and the converter's is not. -/
theorem State.not_due (hw : (s.I && s.pend .wdt) = false) (ha : s.pend .adc = false) : s.serviceDue = false := by
  rcases Bool.and_eq_false_iff.1 hw with hI | hp
  · exact s.serviceDue_of_masked hI
  · simp [State.serviceDue, hp, ha]

/-! ### The first step of a run -/

/-- A run whose first turn performs a micro-operation (R36, R151). -/
theorem run_performs {m : MicroOp} {q : List MicroOp} (hs : s.sched = .engine :: ts)
    (hf : s.fault = none) (hd : s.serviceDue = false) (hh : s.halted = false) (hq : s.mq = m :: q)
    (hr : Host.Core.run Sys2Proof.core n (({ s with sched := ts, mq := q } : State).perform m) = r) :
    Host.Core.run Sys2Proof.core (n + 1) s = r := by
  rwa [run_succ _ _ _ (stepPerformsQueueHead s m q (s.turn_cons _ _ hs) hf hd hh hq), s.passTurn_cons _ _ hs]

/-- A run whose first turn is an expiry (R119). -/
theorem run_expires (hs : s.sched = .expire :: ts) (hf : s.fault = none) (he : s.expireEnabled = true)
    (hr : Host.Core.run Sys2Proof.core n ({ s with sched := ts } : State).expire = r) :
    Host.Core.run Sys2Proof.core (n + 1) s = r := by
  rwa [run_succ _ _ _ (step_expires (s.turn_cons _ _ hs) hf he), s.passTurn_cons _ _ hs]

/-- A run whose first turn serves the countdown (R176, R178). -/
theorem run_serves_wdt (hs : s.sched = .engine :: ts) (hd : s.serviceDue = true) (hp : s.pend .wdt = true)
    (hr : Host.Core.run Sys2Proof.core n (({ s with sched := ts } : State).service .wdt) = r) :
    Host.Core.run Sys2Proof.core (n + 1) s = r := by
  rwa [run_succ _ _ _ (step_serves (s.turn_cons _ _ hs) hd), State.highestPending, if_pos hp,
    s.passTurn_cons _ _ hs]

theorem run_ends {u : State} (h : s = u) : Host.Core.run Sys2Proof.core 0 s = .next u := h ▸ rfl

end Sys2Proof.Machine
end
section
/-! PROOF. The countdown and the scheduler's single steps (R116 to R128): WDCFG, WDSTOP and NAP, the
micro-operations, the expiry of the countdown, and what expiries before every engine step do (R151, R176). -/
namespace Sys2Proof.Machine

variable {s : State}

/-! ### Commands and micro-operations -/

/-- Settles O6: the arming and disarming of `State.arm` and `State.disarm`, and the range that decoding tests. -/
theorem wdcfgArmsAndWdstopDisarms : Obligations.WdcfgArmsAndWdstopDisarms := by
  intro s k
  refine ⟨encode_wdcfg k, by decide, fun hk => ?_, fun hk => ?_, rfl⟩
  · rw [exec, execWdcfg, if_pos hk]; rfl
  · rw [decode_encode_wdcfg, if_pos hk]

/-- Settles O10: the queue is `napQueue`, written out. -/
theorem napQueuesLadder : Obligations.NapQueuesLadder := fun _ t => ⟨encode_nap t, rfl⟩

/-- Settles O19: each micro-operation is the update of its rule; `uSub` and `uRead` read a written register. -/
theorem microOperationEffects : Obligations.MicroOperationEffects := by
  intro s k v r b w
  refine ⟨rfl, rfl, fun hr => ?_, rfl, rfl, rfl, fun hb => ?_, rfl, rfl, rfl, rfl, rfl⟩
  · rw [State.perform, State.doSub, hr]; rfl
  · rw [State.perform, State.doRead, hb]; rfl

/-! ### The countdown's turn -/

/-- Settles O23: CDT has a step exactly when `WDEN` = 1 and the run has not ended. -/
theorem expireSetsFlag : Obligations.ExpireSetsFlag := by
  intro s ht hf
  refine ⟨fun hen hend => ?_, fun hno => ?_⟩
  · rw [step_expires ht hf (by simp [State.expireEnabled, hen, hend])]
    cases hw : s.wdfresh <;> simp [State.expire, State.emit, hw]
  · exact step_countdown_passes ht hf (by rcases hno with h | h <;> simp [State.expireEnabled, h])

/-! ### Expiries before every engine step -/

/-- The engine is in a command, unmasked, and its countdown runs with the interrupt enabled (R36, R119, R176). -/
structure State.Starvable (s : State) : Prop where
  noFault  : s.fault = none
  running  : s.halted = false
  busy     : s.mq ≠ []
  unmasked : s.I = true
  noShadow : s.shadow = false
  wden     : s.wden = true
  wdie     : s.wdie = true

/-- What an expiry and its service leave: one event each, and `LATCHOK` as the expiry writes it (R119, R178). -/
def State.expiredAndServed (s : State) (ts : List Turn) : State :=
  { s with
    wdif := false, latchok := s.latchok || s.wdfresh, sched := ts
    trace := s.trace ++ [.expire s.wdk, .serviced .wdt] }

/-- An expiry makes the service due that the engine's next turn then takes. -/
theorem State.Starvable.run_two (h : s.Starvable) {ts : List Turn} (hs : s.sched = .expire :: .engine :: ts) :
    Host.Core.run Sys2Proof.core 2 s = .next (s.expiredAndServed ts) := by
  obtain ⟨hf, hh, hq, hI, hsh, hen, hie⟩ := h
  have he : s.expireEnabled = true := by simp [State.expireEnabled, State.ended, hen, hf, hq]
  refine run_expires hs hf he (run_serves_wdt rfl ((State.serviceDue_iff _).2 ⟨hf, hI, hsh, .inl hie⟩) hie
    (run_ends ?_))
  simp [State.service_wdt, State.expire, State.emit, State.expiredAndServed, hI, hsh, hh]

theorem State.Starvable.expiredAndServed (h : s.Starvable) (ts : List Turn) :
    (s.expiredAndServed ts).Starvable := by
  obtain ⟨hf, hh, hq, hI, hsh, hen, hie⟩ := h
  exact ⟨hf, hh, hq, hI, hsh, hen, hie⟩

/-- Settles O47, by induction on the number of expiries. -/
theorem expiriesStarveTheQueue : Obligations.ExpiriesStarveTheQueue := by
  intro n s rest hf hh hq hI hsh hen hie hs
  have h : s.Starvable := ⟨hf, hh, hq, hI, hsh, hen, hie⟩
  clear hf hh hq hI hsh hen hie
  induction n generalizing s with
  | zero => exact ⟨s, rfl, rfl, rfl, h.running, by simp⟩
  | succ n ih =>
    rw [List.replicate_succ, List.flatten_cons] at hs
    obtain ⟨u, hu, hmq, hcp, hrun, htr⟩ := ih (s.expiredAndServed _) rfl (h.expiredAndServed _)
    refine ⟨u, ?_, hmq, hcp, hrun, ?_⟩
    · rw [Nat.mul_succ, Nat.add_comm]
      exact (run_add 2 _ _ _ (h.run_two hs)).trans hu
    · rw [htr, List.replicate_succ, List.flatten_cons]
      simp [State.expiredAndServed]

end Sys2Proof.Machine
end
section
/-! PROOF. The ladder's stages, written out (R121): the top stage as often as it fits, then each lower stage
whose bit of the request is 1. -/
namespace Sys2Proof.Machine

theorem maxStage_toNat_le (kmax : MaxStage) : kmax.toNat ≤ 7 := by
  cases kmax <;> decide

theorem stage_toNat_ofNat {n : Nat} (hn : n ≤ 7) : (BitVec.ofNat 3 n).toNat = n := by
  rw [BitVec.toNat_ofNat, Nat.mod_eq_of_lt (by omega)]

/-- The stages below n whose bit of t is 1, the highest first (R121). -/
def bitStages (n : Nat) (t : Ticks) : List Stage :=
  ((List.range n).reverse.filter fun j => t.getLsbD (4 + j)).map (BitVec.ofNat 3)

theorem bitStages_succ (n : Nat) (t : Ticks) :
    bitStages (n + 1) t = List.replicate (t.getLsbD (4 + n)).toNat (BitVec.ofNat 3 n) ++ bitStages n t := by
  cases h : t.getLsbD (4 + n) <;> simp [bitStages, List.range_succ, h]

theorem length_bitStages (n : Nat) (t : Ticks) :
    (bitStages n t).length = ((List.range n).filter fun j => t.getLsbD (4 + j)).length := by
  simp [bitStages, List.filter_reverse]

/-- The stages below n depend on the bits below `n + 4` alone. -/
theorem bitStages_mod {n : Nat} {t r : Ticks} (h : r.toNat % 2 ^ (4 + n) = t.toNat % 2 ^ (4 + n)) :
    bitStages n r = bitStages n t := by
  unfold bitStages
  congr 1
  refine List.filter_congr fun j hj => ?_
  have hlt : 4 + j < 4 + n := by simpa using hj
  have hbit := congrArg (Nat.testBit · (4 + j)) h
  simpa [BitVec.getLsbD, Nat.testBit_mod_two_pow, hlt] using hbit

theorem mem_bitStages {n : Nat} (hn : n ≤ 8) {k : Stage} {t : Ticks} :
    k ∈ bitStages n t ↔ k.toNat < n ∧ t.getLsbD (4 + k.toNat) = true := by
  simp only [bitStages, List.mem_map, List.mem_filter, List.mem_reverse, List.mem_range]
  constructor
  · rintro ⟨j, ⟨hj, hbit⟩, rfl⟩
    rw [stage_toNat_ofNat (by omega)]
    exact ⟨hj, hbit⟩
  · exact fun h => ⟨k.toNat, h, by simp⟩

theorem bitStages_decreasing {n : Nat} (hn : n ≤ 8) (t : Ticks) :
    (bitStages n t).Pairwise fun k k' => k'.toNat < k.toNat := by
  induction n with
  | zero => exact .nil
  | succ n ih =>
    have hbelow : ∀ k ∈ bitStages n t, k.toNat < n := fun k hk => ((mem_bitStages (by omega)).1 hk).1
    have hn' : (BitVec.ofNat 3 n).toNat = n := stage_toNat_ofNat (by omega)
    rw [bitStages_succ]
    cases t.getLsbD (4 + n)
    · exact ih (by omega)
    · exact .cons (fun k hk => (hbelow k hk).trans_eq hn'.symm) (ih (by omega))

theorem count_bitStages {n : Nat} (hn : n ≤ 8) (k : Stage) (t : Ticks) :
    (bitStages n t).count k = if k.toNat < n ∧ t.getLsbD (4 + k.toNat) = true then 1 else 0 := by
  have hnodup : (bitStages n t).Nodup := (bitStages_decreasing hn t).imp fun h => by rintro rfl; omega
  rw [hnodup.count]
  simp only [mem_bitStages hn]

/-- Below the top stage n, what is left of t after its top stages is t's bits. -/
theorem ladderFrom_stagesDown {n : Nat} (hn : n ≤ 7) (t : Ticks) :
    (ladderFrom (stagesDown n) t).1 =
      List.replicate (t.toNat / 2 ^ (4 + n)) (BitVec.ofNat 3 n) ++ bitStages n t := by
  induction n generalizing t with
  | zero =>
    simp only [stagesDown, ladderFrom_cons, (takeStage_ladder _ _).1]
    rfl
  | succ n ih =>
    obtain ⟨htaken, hleft⟩ := takeStage_ladder (BitVec.ofNat 3 (n + 1)) t
    have hpow : 16 * 2 ^ (n + 1) = 2 ^ (4 + n) * 2 := by ring
    rw [stage_toNat_ofNat hn, hpow] at htaken hleft
    have hbit : t.toNat % (2 ^ (4 + n) * 2) / 2 ^ (4 + n) = (t.getLsbD (4 + n)).toNat := by
      rw [Nat.mod_mul_right_div_self, BitVec.getLsbD, Nat.toNat_testBit]
    have hlow : (takeStage (BitVec.ofNat 3 (n + 1)) 4096 t).2.toNat % 2 ^ (4 + n) = t.toNat % 2 ^ (4 + n) := by
      rw [hleft, Nat.mod_mul_right_mod]
    rw [stagesDown, ladderFrom_cons, htaken, ih (by omega), hleft, hbit, bitStages_mod hlow, bitStages_succ]
    rfl

/-- The ladder (R121): the top stage `t div (16 << KMAX)` times, then the stages of the bits below it. -/
theorem ladder_stages (kmax : MaxStage) (t : Ticks) :
    (ladder kmax t).1 =
      List.replicate (t.toNat / 2 ^ (4 + kmax.toNat)) (BitVec.ofNat 3 kmax.toNat) ++ bitStages kmax.toNat t :=
  ladderFrom_stagesDown (maxStage_toNat_le kmax) t

/-- What the ladder leaves is below 16, and what it takes is a multiple of 16 (R121, R122). -/
theorem ladder_residual (kmax : MaxStage) (t : Ticks) : (ladder kmax t).2.toNat = t.toNat % 16 := by
  have hsum := ladderFrom_sum (stagesDown kmax.toNat) t
  have hres := ladderFrom_residual_lt kmax.toNat t
  obtain ⟨m, hm⟩ : 16 ∣ ((ladderFrom (stagesDown kmax.toNat) t).1.map fun k => 16 * 2 ^ k.toNat).sum :=
    List.dvd_sum (by simp)
  rw [ladder]
  omega

/-- Settles O37: the residual is `ladder_residual`, and the sum is the rest (`ladderFrom_sum`). -/
theorem ladderSumAndResidual : Obligations.LadderSumAndResidual := by
  intro kmax t
  have hsum := ladderFrom_sum (stagesDown kmax.toNat) t
  have hres := ladder_residual kmax t
  refine ⟨hres, ?_⟩
  rw [ladder] at hres ⊢
  omega

/-- Settles O38, from the stages written out: the lower ones decrease and are below the top one. -/
theorem ladderOrderAndCounts : Obligations.LadderOrderAndCounts := by
  intro kmax t
  have htop : (BitVec.ofNat 3 kmax.toNat).toNat = kmax.toNat := stage_toNat_ofNat (maxStage_toNat_le kmax)
  have hn : kmax.toNat ≤ 8 := (maxStage_toNat_le kmax).trans (by decide)
  refine ⟨?order, fun k hk => stage_legal_of_mem_ladder hk, ?top, fun k hk => ?lower⟩
  case order =>
    rw [ladder_stages, List.pairwise_append]
    refine ⟨List.pairwise_replicate.2 (.inr le_rfl), (bitStages_decreasing hn t).imp le_of_lt, ?_⟩
    intro k hk k' hk'
    rw [List.eq_of_mem_replicate hk, htop]
    exact ((mem_bitStages hn).1 hk').1.le
  case top =>
    rw [ladder_stages, List.count_append, List.count_replicate_self, count_bitStages hn, htop, pow_add]
    simp
  case lower =>
    have hne : BitVec.ofNat 3 kmax.toNat ≠ k := fun h => by rw [← h, htop] at hk; omega
    rw [ladder_stages, List.count_append, List.count_replicate, count_bitStages hn]
    simp [hne, hk, Nat.add_comm]

/-- Settles O39: the stages are counted as they are written out, and each queues five micro-operations. -/
theorem ladderLength : Obligations.LadderLength := by
  intro kmax t
  refine ⟨?_, ?_⟩
  · rw [ladder_stages, List.length_append, List.length_replicate, length_bitStages]
  · simp [napQueue, stageMops, List.length_flatMap, Nat.mul_comm]

end Sys2Proof.Machine
end
section
/-! PROOF. A NAP under the canonical schedule of 95_test_vectors.md (R125, R126, R128): its beginning, one stage, its
end, and the whole run by induction on the stages of the ladder. -/
namespace Sys2Proof.Machine

variable {s : State} {r : Result} {n : Nat} {ts : List Turn}

/-! ### One stage -/

/-- The engine is about to perform, or fetch, with no service due and no conversion interrupt pending. -/
structure State.Ready (s : State) : Prop where
  noFault   : s.fault = none
  running   : s.halted = false
  noService : s.serviceDue = false
  noAdc     : s.pend .adc = false

/-- The turns of one stage under the canonical schedule. -/
def stageTurns : List Turn := [.engine, .engine, .engine, .expire, .engine, .engine, .engine]

/-- The halt of stage k, with its countdown running; q and ts are the queue after the stage and the turns to come. -/
def State.haltedInStage (s : State) (k : Stage) (q : List MicroOp) (ts : List Turn) : State :=
  { s.arm k with
    mq := .uCli :: .uSub k :: q, sched := ts, I := true, shadow := false, halted := true, hwait := .wdt }

/-- What one stage leaves (R125, R126). -/
def State.afterStage (s : State) (k : Stage) (q : List MicroOp) (ts : List Turn) : State :=
  { s.arm k with
    mq := q, sched := ts, I := false, shadow := false, hwait := .wdt, latchok := true
    naprem := s.naprem.map (· - stagePeriod k), trace := s.trace ++ stageEvents k }

variable {k : Stage} {q : List MicroOp}

/-- A stage arms the countdown and halts in SEI's shadow, so that nothing is served on the way (R126). -/
theorem State.Ready.run_to_halt (h : s.Ready) (hq : s.mq = stageMops k ++ q)
    (hs : s.sched = [.engine, .engine, .engine] ++ ts) :
    Host.Core.run Sys2Proof.core 3 s = .next (s.haltedInStage k q ts) := by
  obtain ⟨hf, hh, hd, ha⟩ := h
  refine run_performs hs hf hd hh hq ?_
  refine run_performs rfl hf (State.not_due (Bool.and_false _) ha) hh rfl ?_
  exact run_performs rfl hf (State.serviceDue_of_shadow _ rfl) hh rfl rfl

/-- The expiry's service wakes the engine, which masks and accounts for the stage (R125, R126). -/
theorem State.Ready.run_from_halt (h : s.Ready) :
    Host.Core.run Sys2Proof.core 4 (s.haltedInStage k q ([.expire, .engine, .engine, .engine] ++ ts)) =
      .next (s.afterStage k q ts) := by
  obtain ⟨hf, hh, -, ha⟩ := h
  have he : (s.haltedInStage k q ([.expire, .engine, .engine, .engine] ++ ts)).expireEnabled = true := by
    simp [State.expireEnabled, State.ended, State.haltedInStage, hf]
  refine run_expires rfl hf he ?_
  refine run_serves_wdt rfl ((State.serviceDue_iff _).2 ⟨hf, rfl, rfl, .inl rfl⟩) rfl ?_
  refine run_performs rfl hf (State.not_due (Bool.and_false _) ha) rfl rfl ?_
  refine run_performs rfl hf (State.serviceDue_of_masked _ rfl) rfl rfl (run_ends ?_)
  simp [State.haltedInStage, State.expire, State.service_wdt, State.perform, State.doSub, State.arm, State.setI,
    State.setShadow, State.emit, HaltWait.endedBy, State.afterStage, stageEvents, hh]

theorem State.Ready.run_stage (h : s.Ready) (hq : s.mq = stageMops k ++ q) (hs : s.sched = stageTurns ++ ts) :
    Host.Core.run Sys2Proof.core 7 s = .next (s.afterStage k q ts) :=
  (run_add 3 4 s _ (h.run_to_halt hq hs)).trans h.run_from_halt

theorem State.Ready.afterStage (h : s.Ready) (k : Stage) (q : List MicroOp) (ts : List Turn) :
    (s.afterStage k q ts).Ready :=
  ⟨h.noFault, h.running, State.serviceDue_of_masked _ rfl, h.noAdc⟩

theorem State.afterStage_naprem {rem : Ticks} (h : s.naprem = some rem) :
    (s.afterStage k q ts).naprem = some (rem - stagePeriod k) :=
  congrArg (Option.map (· - stagePeriod k)) h

/-! ### The stages and the end -/

/-- What the stages ks and the end of the NAP leave, with the remainder v and the turns ts left (R125, R128). -/
def State.afterNap (s : State) (ks : List Stage) (v : Ticks) (ts : List Turn) : State :=
  { s with
    cp := s.cp + 1, mq := [], sched := ts, I := false, shadow := false
    hwait := if ks = [] then s.hwait else .wdt
    latchok := if ks = [] then s.latchok else true
    wdk := ks.getLastD s.wdk
    wdfresh := if ks = [] then s.wdfresh else true
    wden := false, wdie := false, wdif := false, naprem := some v
    trace := s.trace ++ ks.flatMap stageEvents }

theorem State.afterStage_afterNap (k : Stage) (q : List MicroOp) (ts' : List Turn) (ks : List Stage) (v : Ticks) :
    (s.afterStage k q ts').afterNap ks v ts = s.afterNap (k :: ks) v ts := by
  simp [State.afterStage, State.afterNap, List.getLast?_cons]

/-- The end of a NAP disarms the countdown, masks, and completes (R128). -/
theorem State.Ready.run_end (h : s.Ready) {v : Ticks} (hq : s.mq = [.uDisarm, .uCli, .uDone])
    (hs : s.sched = [.engine, .engine, .engine] ++ ts) (hv : s.naprem = some v) :
    Host.Core.run Sys2Proof.core 3 s = .next (s.afterNap [] v ts) := by
  obtain ⟨hf, hh, hd, ha⟩ := h
  refine run_performs hs hf hd hh hq ?_
  refine run_performs rfl hf (State.not_due (Bool.and_false _) ha) hh rfl ?_
  refine run_performs rfl hf (State.serviceDue_of_masked _ rfl) hh rfl (run_ends ?_)
  simp [State.perform, State.disarm, State.setI, State.setShadow, State.advance, State.afterNap, hv]

/-- By induction on the stages, whose periods the remainder loses one after the other (R121, R122). -/
theorem State.Ready.run_stages (h : s.Ready) {ks : List Stage} {rem v : Ticks}
    (hq : s.mq = ks.flatMap stageMops ++ [.uDisarm, .uCli, .uDone])
    (hs : s.sched = ks.flatMap (fun _ => stageTurns) ++ ([.engine, .engine, .engine] ++ ts))
    (hrem : s.naprem = some rem) (hsum : (ks.map fun k => 16 * 2 ^ k.toNat).sum + v.toNat = rem.toNat) :
    Host.Core.run Sys2Proof.core (7 * ks.length + 3) s = .next (s.afterNap ks v ts) := by
  induction ks generalizing s rem with
  | nil =>
    have hv : v = rem := BitVec.eq_of_toNat_eq (by simpa using hsum)
    exact h.run_end hq hs (hv ▸ hrem)
  | cons k ks ih =>
    rw [List.flatMap_cons, List.append_assoc] at hq hs
    have hperiod : (stagePeriod k).toNat = 16 * 2 ^ k.toNat := stagePeriod_toNat k
    rw [List.map_cons, List.sum_cons] at hsum
    have hle : stagePeriod k ≤ rem := BitVec.le_def.2 (by omega)
    have hsub : (rem - stagePeriod k).toNat = rem.toNat - (stagePeriod k).toNat := BitVec.toNat_sub_of_le hle
    rw [List.length_cons, show 7 * (ks.length + 1) + 3 = 7 + (7 * ks.length + 3) by omega,
      run_add _ _ _ _ (h.run_stage hq hs), ih (h.afterStage k _ _) rfl rfl (State.afterStage_naprem hrem) (by omega),
      State.afterStage_afterNap]

/-! ### The beginning -/

/-- The engine before the first stage of a NAP t: the queue and the remainder are set, and a pending countdown
interrupt has been served if the NAP was fetched unmasked (R125, R128; vector N7). -/
def State.beforeStages (s : State) (t : Ticks) (early : Bool) (ts : List Turn) : State :=
  { s with
    mq := (ladder s.cfg.kmax t).1.flatMap stageMops ++ [.uDisarm, .uCli, .uDone]
    sched := ts, shadow := false, naprem := some t, wdif := s.wdif && !early
    trace := s.trace ++ if early then [.serviced .wdt] else [] }

variable {t : Ticks} {early : Bool}

/-- A run whose first turn fetches a NAP (R128). -/
theorem run_fetches_nap (hw : s.Fetching (encode (.nap t))) (hs : s.sched = .engine :: ts)
    (hr : Host.Core.run Sys2Proof.core n
      ({ s with sched := ts, mq := napQueue s.cfg.kmax t, shadow := false }) = r) :
    Host.Core.run Sys2Proof.core (n + 1) s = r := by
  have hstep := step_fetch (s.turn_cons _ _ hs) hw
  rw [fetchStep_nap, s.passTurn_cons _ _ hs] at hstep
  rwa [run_succ _ _ _ hstep]

/-- The fetch, in SEI's shadow the early service, and `uSetRem` (R128, R176). -/
theorem State.Fetching.run_beginning (hw : s.Fetching (encode (.nap t))) (he : early = (s.I && s.pend .wdt))
    (hs : s.sched = (if early then [.engine] else []) ++ ([.engine, .engine] ++ ts))
    (ha : s.pend .adc = false) :
    Host.Core.run Sys2Proof.core (early.toNat + 2) s = .next (s.beforeStages t early ts) := by
  have hf := hw.noFault
  have hh := hw.running
  cases early with
  | false =>
    refine run_fetches_nap hw hs (run_performs rfl hf ?_ hh rfl (run_ends ?_))
    · exact State.not_due he.symm ha
    · simp [State.perform, State.doSetRem, State.setShadow, State.beforeStages]
  | true =>
    obtain ⟨hI, hp⟩ := Bool.and_eq_true_iff.1 he.symm
    refine run_fetches_nap hw hs (run_serves_wdt rfl ((State.serviceDue_iff _).2 ⟨hf, hI, rfl, .inl hp⟩) hp ?_)
    rw [State.service_wdt]
    refine run_performs rfl hf (State.not_due (Bool.and_false _) ha) ?_ rfl (run_ends ?_)
    · simp [hh]
    · simp [State.perform, State.doSetRem, State.setShadow, State.beforeStages, hh, hI]

theorem State.Fetching.ready_beforeStages (hw : s.Fetching (encode (.nap t)))
    (he : early = (s.I && s.pend .wdt)) (ha : s.pend .adc = false) :
    (s.beforeStages t early ts).Ready := by
  refine ⟨hw.noFault, hw.running, State.not_due ?_ ha, ha⟩
  cases early with
  | false => simpa [State.beforeStages, State.pend] using he
  | true => simp [State.beforeStages, State.pend]

/-- The canonical schedule, bracketed as the run is cut. -/
theorem napTurns_append (kmax : MaxStage) (t : Ticks) (ts : List Turn) :
    napTurns kmax t ++ ts = [.engine, .engine] ++
      ((ladder kmax t).1.flatMap (fun _ => stageTurns) ++ ([.engine, .engine, .engine] ++ ts)) := by
  simp only [napTurns, stageTurns, List.append_assoc]

theorem length_napTurns (kmax : MaxStage) (t : Ticks) :
    (napTurns kmax t).length = 2 + (7 * (ladder kmax t).1.length + 3) := by
  simp [napTurns, List.length_flatMap]
  omega

/-- Settles O40: the beginning, and then the stages of the ladder and the end, which leave its residual. -/
theorem napRunsToCompletion : Obligations.NapRunsToCompletion := by
  intro s t rest early hw he hs ha
  have hsum := ladderFrom_sum (stagesDown s.cfg.kmax.toNat) t
  rw [← ladder, ladder_residual] at hsum
  rw [List.append_assoc, napTurns_append] at hs
  rw [length_napTurns, ← Nat.add_assoc, run_add _ _ _ _ (hw.run_beginning he hs ha),
    (hw.ready_beforeStages he ha).run_stages rfl rfl rfl (v := t % 16#16) hsum, hw.idle]
  rfl

end Sys2Proof.Machine
end
section
/-! PROOF. The converter's turn (R141, R144), alone and as the first step of a run, and the fetch step of SAMPLE
(R142). -/
namespace Sys2Proof.Machine

variable {s : State} {r : Result} {n : Nat} {ts : List Turn} {v : Byte}

/-! ### Steps -/

/-- ADC's turn when it has a step (R141). -/
theorem step_converts (ht : s.turn = .convert v) (hf : s.fault = none) (he : s.convertEnabled = true) :
    step s = .next (s.passTurn.convert v) := by
  have he' : s.passTurn.convertEnabled = true := by simpa [State.convertEnabled] using he
  simp [step, agentStep, ht, converterTurn, hf, he']

/-- ADC's turn when it has no step (log 5). -/
theorem step_converter_passes (ht : s.turn = .convert v) (hf : s.fault = none) (he : s.convertEnabled = false) :
    step s = .next s.passTurn := by
  have he' : s.passTurn.convertEnabled = false := by simpa [State.convertEnabled] using he
  simp [step, agentStep, ht, converterTurn, hf, he']

/-- Settles O24: ADC has a step exactly when `ADSC` = `ADEN` = 1 and the run has not ended. -/
theorem convertDeliversDraw : Obligations.ConvertDeliversDraw := by
  intro s v ht hf
  refine ⟨fun hsc hen hend => ?_, fun hno => ?_⟩
  · exact step_converts ht hf (by simp [State.convertEnabled, hsc, hen, hend])
  · exact step_converter_passes ht hf (by rcases hno with h | h | h <;> simp [State.convertEnabled, h])

/-- The fetch step of SAMPLE after INIT queues its micro-operations (R142). -/
theorem execSample_of_dspwr (hd : s.dspwr = true) :
    execSample s = .next ((s.setQueue sampleQueue).setShadow false) := by
  rw [execSample, if_pos hd]

/-- Settles O11: the queue is `sampleQueue`, written out. -/
theorem sampleQueuesSequence : Obligations.SampleQueuesSequence :=
  ⟨by decide, fun _ hd => execSample_of_dspwr hd⟩

/-- While `FAULT` is `none` every turn answers a next state (R171; logs 5 and 6). -/
theorem step_answers_next (hf : s.fault = none) : ∃ u, step s = .next u := by
  have hf' : s.passTurn.fault = none := by simpa using hf
  rw [step, agentStep]
  cases s.turn with
  | reset => exact ⟨_, rfl⟩
  | expire => exact ⟨_, by simp only [countdownTurn, hf']; rfl⟩
  | convert v => exact ⟨_, by simp only [converterTurn, hf']; rfl⟩
  | engine =>
    simp only [engineTurn, hf']
    split_ifs
    · exact ⟨_, rfl⟩
    · exact ⟨_, rfl⟩
    · split
      · exact ⟨_, rfl⟩
      · split
        · rw [fetchStep]
          split
          · exact exec_answers_next _ _
          · exact ⟨_, rfl⟩
        · exact ⟨_, rfl⟩

/-! ### The first step of a run -/

/-- A run whose first turn is a conversion (R141). -/
theorem run_converts (hs : s.sched = .convert v :: ts) (hf : s.fault = none) (he : s.convertEnabled = true)
    (hr : Host.Core.run Sys2Proof.core n (({ s with sched := ts } : State).convert v) = r) :
    Host.Core.run Sys2Proof.core (n + 1) s = r := by
  rwa [run_succ _ _ _ (step_converts (s.turn_cons _ _ hs) hf he), s.passTurn_cons _ _ hs]

/-- A run whose first turn serves the converter, no countdown interrupt coming before it (R176 to R178). -/
theorem run_serves_adc (hs : s.sched = .engine :: ts) (hd : s.serviceDue = true) (hp : s.pend .wdt = false)
    (hr : Host.Core.run Sys2Proof.core n (({ s with sched := ts } : State).service .adc) = r) :
    Host.Core.run Sys2Proof.core (n + 1) s = r := by
  rwa [run_succ _ _ _ (step_serves (s.turn_cons _ _ hs) hd), State.highestPending,
    if_neg (by rw [hp]; decide), s.passTurn_cons _ _ hs]

/-- A run whose first turn fetches a SAMPLE after INIT (R142). -/
theorem run_fetches_sample (hw : s.Fetching (encode .sample)) (hdspwr : s.dspwr = true)
    (hs : s.sched = .engine :: ts)
    (hr : Host.Core.run Sys2Proof.core n ({ s with sched := ts, mq := sampleQueue, shadow := false }) = r) :
    Host.Core.run Sys2Proof.core (n + 1) s = r := by
  have hstep := step_fetch (s.turn_cons _ _ hs) hw
  rw [fetchStep, decodeOfEncode _ .sample rfl, s.passTurn_cons _ _ hs] at hstep
  rwa [run_succ _ _ _ (hstep.trans (execSample_of_dspwr hdspwr))]

end Sys2Proof.Machine
end
section
/-! PROOF. A SAMPLE under the canonical schedule of 95_test_vectors.md (R142, R143), and one entered with `I` = 1
whose conversion is served before its halt (R163, R176, R178; log 18). -/
namespace Sys2Proof.Machine

variable {s u : State} {t : Turn} {ts turns : List Turn} {v : Byte}

/-! ### The beginning -/

/-- A SAMPLE is fetched with nothing pending, after INIT. -/
structure State.SampleStarts (s : State) : Prop where
  fetching : s.Fetching (encode .sample)
  dspwr    : s.dspwr = true
  noWdt    : s.pend .wdt = false
  noAdc    : s.pend .adc = false

/-- The sensor is on and its conversion has been started; ts are the turns to come. -/
def State.converting (s : State) (ts : List Turn) : State :=
  { s with
    mq := [.uSei, .uHaltUntil .adc, .uCli, .uRead, .uSensOff, .uDone], sched := ts, shadow := false
    spwr := true, aden := true, adie := true, adif := false, adsc := true
    trace := s.trace ++ [.sense true] }

/-- The first three turns start the conversion, whatever `I` is (R142, R143). -/
theorem State.SampleStarts.run_beginning (h : s.SampleStarts)
    (hs : s.sched = [.engine, .engine, .engine] ++ ts) :
    Host.Core.run Sys2Proof.core 3 s = .next (s.converting ts) := by
  obtain ⟨hw, hdspwr, hwdt, hadc⟩ := h
  have hI : (s.I && s.pend .wdt) = false := by rw [hwdt, Bool.and_false]
  refine run_fetches_sample hw hdspwr hs ?_
  refine run_performs rfl hw.noFault (State.not_due hI hadc) hw.running rfl ?_
  exact run_performs rfl hw.noFault (State.not_due hI hadc) hw.running rfl rfl

/-! ### The canonical schedule -/

/-- The halt of a SAMPLE whose conversion is in progress. -/
def State.haltedForConversion (s : State) (ts : List Turn) : State :=
  { s.converting ts with
    mq := [.uCli, .uRead, .uSensOff, .uDone], I := true, halted := true, hwait := .adc }

/-- What a SAMPLE leaves (R142, R143). -/
def State.afterSample (s : State) (v : Byte) (ts : List Turn) : State :=
  { s with
    cp := s.cp + 1, mq := [], sched := ts, I := false, shadow := false, hwait := .adc
    spwr := false, aden := false, adsc := false, adie := false, adif := false
    adres := some v, sample := some v
    trace := s.trace ++ [.sense true, .serviced .adc, .sampled (some v), .sense false] }

/-- The halt is entered in the shadow of `uSei` (R142, R159). -/
theorem State.SampleStarts.run_to_halt (h : s.SampleStarts) :
    Host.Core.run Sys2Proof.core 2 (s.converting ([.engine, .engine] ++ ts)) =
      .next (s.haltedForConversion ts) := by
  obtain ⟨hw, -, hwdt, -⟩ := h
  have hI : (s.I && s.pend .wdt) = false := by rw [hwdt, Bool.and_false]
  refine run_performs rfl hw.noFault (State.not_due hI rfl) hw.running rfl ?_
  exact run_performs rfl hw.noFault (State.serviceDue_of_shadow _ rfl) hw.running rfl rfl

/-- The conversion's service wakes the engine, which masks, reads the result and switches the sensor off (R143). -/
theorem State.SampleStarts.run_from_halt (h : s.SampleStarts) :
    Host.Core.run Sys2Proof.core 6
        (s.haltedForConversion ([.convert v, .engine, .engine, .engine, .engine, .engine] ++ ts)) =
      .next (s.afterSample v ts) := by
  obtain ⟨⟨hf, -, hh, -, -⟩, -, hwdt, -⟩ := h
  have he : (s.haltedForConversion
      ([.convert v, .engine, .engine, .engine, .engine, .engine] ++ ts)).convertEnabled = true := by
    simp [State.convertEnabled, State.ended, State.haltedForConversion, State.converting, hf]
  refine run_converts rfl hf he ?_
  refine run_serves_adc rfl ((State.serviceDue_iff _).2 ⟨hf, rfl, rfl, .inr rfl⟩) hwdt ?_
  refine run_performs rfl hf (State.not_due hwdt rfl) rfl rfl ?_
  refine run_performs rfl hf (State.serviceDue_of_masked _ rfl) rfl rfl ?_
  refine run_performs rfl hf (State.serviceDue_of_masked _ rfl) rfl rfl ?_
  refine run_performs rfl hf (State.serviceDue_of_masked _ rfl) rfl rfl (run_ends ?_)
  simp [State.haltedForConversion, State.converting, State.afterSample, State.convert, State.service_adc,
    State.perform, State.doRead, State.doSensOff, State.setI, State.setShadow, State.emit, State.advance,
    HaltWait.endedBy, hh]

/-- Settles O41: the beginning, the halt, and what its service leaves. -/
theorem sampleRunsToCompletion : Obligations.SampleRunsToCompletion := by
  intro s v rest hw hdspwr hs hwdt hadc
  have h : s.SampleStarts := ⟨hw, hdspwr, hwdt, hadc⟩
  have hrun : Host.Core.run Sys2Proof.core 11 s = .next (s.afterSample v rest) :=
    (run_add 3 8 _ _ (h.run_beginning hs)).trans ((run_add 2 6 _ _ h.run_to_halt).trans h.run_from_halt)
  rw [hrun, State.afterSample, hw.idle]

/-! ### A hung engine -/

theorem Executed.sched {i : Instr} (h : Executed s i u) : u.sched = s.sched := by
  cases h <;> simp [State.transmit_eq]

/-- An agent lays no turns down (log 3). -/
theorem Move.sched (h : Move t s u) : u.sched = s.sched := by
  cases h with
  | reset _ => simp [State.resetStep_eq]
  | service _ _ => cases s.highestPending <;> simp [State.service_wdt, State.service_adc]
  | perform m rest _ _ _ _ _ => cases m <;> rfl
  | fetch w i _ _ _ _ _ _ _ _ he => exact (executed_of_exec he).sched
  | expire _ _ _ | convert _ _ _ _ | illegal _ _ _ _ _ _ _ _ _ | pass _ _ => rfl

/-- The engine is halted for a conversion that is neither in progress nor complete (log 18). -/
structure State.Hung (s : State) : Prop where
  noFault    : s.fault = none
  halted     : s.halted = true
  waits      : s.hwait = .adc
  noStart    : s.adsc = false
  noComplete : s.adif = false

/-- An expiry or its service. -/
def Event.OfCountdown (e : Event) : Prop := e = .serviced .wdt ∨ ∃ k, e = .expire k

/-- What a hung engine passes through: the command in progress stays as it is, and the countdown alone emits. -/
structure State.HangsTo (s u : State) : Prop where
  hung   : u.Hung
  cp     : u.cp = s.cp
  mq     : u.mq = s.mq
  events : ∃ es, u.trace = s.trace ++ es ∧ ∀ e ∈ es, e.OfCountdown

theorem State.Hung.refl (h : s.Hung) : s.HangsTo s := ⟨h, rfl, rfl, [], by simp⟩

theorem State.HangsTo.trans {w : State} (h : s.HangsTo u) (h' : u.HangsTo w) : s.HangsTo w := by
  obtain ⟨es, hes, hall⟩ := h.events
  obtain ⟨es', hes', hall'⟩ := h'.events
  refine ⟨h'.hung, h'.cp.trans h.cp, h'.mq.trans h.mq, es ++ es', ?_, ?_⟩
  · rw [hes', hes, List.append_assoc]
  · exact List.forall_mem_append.2 ⟨hall, hall'⟩

/-- A hung engine has no conversion to wait for, and the countdown's service does not end its halt (R163, R178). -/
theorem State.Hung.move (h : s.Hung) (hm : Move t s u) (hr : t ≠ .reset) : s.HangsTo u := by
  obtain ⟨hf, hh, hw, hsc, hif⟩ := h
  cases hm with
  | reset ht => exact absurd ht hr
  | expire _ _ _ => exact ⟨⟨hf, hh, hw, hsc, hif⟩, rfl, rfl, [.expire s.wdk], rfl, by simp [Event.OfCountdown]⟩
  | convert v _ _ he => simp [State.convertEnabled, hsc] at he
  | service _ hd =>
    have hp : s.highestPending = .wdt := by
      have := s.pend_highestPending hd
      cases hs : s.highestPending with
      | wdt => rfl
      | adc => simp [hs, State.pend, hif] at this
    rw [hp, State.service_wdt]
    exact ⟨⟨hf, by simp [hh, hw, HaltWait.endedBy], hw, hsc, hif⟩, rfl, rfl, [.serviced .wdt], rfl,
      by simp [Event.OfCountdown]⟩
  | perform _ _ _ _ _ hh' _ | illegal _ _ _ _ _ hh' _ _ _ | fetch _ _ _ _ _ _ hh' _ _ _ _ =>
    exact absurd (hh.symm.trans hh') (by decide)
  | pass _ _ => exact State.Hung.refl ⟨hf, hh, hw, hsc, hif⟩

/-- One turn of a hung engine. -/
theorem State.Hung.step_hangsTo (h : s.Hung) (hs : s.sched = t :: ts) (hr : t ≠ .reset) :
    ∃ u, step s = .next u ∧ s.HangsTo u ∧ u.sched = ts := by
  obtain ⟨u, hu⟩ := step_answers_next h.noFault
  have hm := step_move s u hu
  rw [s.turn_cons _ _ hs, s.passTurn_cons _ _ hs] at hm
  have hpassed : ({ s with sched := ts } : State).Hung := ⟨h.noFault, h.halted, h.waits, h.noStart, h.noComplete⟩
  obtain ⟨hung, hcp, hmq, hev⟩ := hpassed.move hm hr
  exact ⟨u, hu, ⟨hung, hcp, hmq, hev⟩, hm.sched⟩

/-- By induction on the turns: without a reset a hung engine hangs through all of them (R163). -/
theorem State.Hung.run_hangsTo {rest : List Turn} (h : s.Hung) (hs : s.sched = turns ++ rest) (hr : .reset ∉ turns) :
    ∃ u, Host.Core.run Sys2Proof.core turns.length s = .next u ∧ s.HangsTo u := by
  induction turns generalizing s with
  | nil => exact ⟨s, rfl, h.refl⟩
  | cons t turns ih =>
    obtain ⟨ht, hr⟩ := not_or.1 (mt List.mem_cons.2 hr)
    obtain ⟨u, hu, hsu, hsched⟩ := h.step_hangsTo hs (Ne.symm ht)
    obtain ⟨w, hw, huw⟩ := ih hsu.hung hsched hr
    exact ⟨w, by rwa [List.length_cons, run_succ _ _ _ hu], hsu.trans huw⟩

/-! ### An early service -/

/-- The halt of a SAMPLE whose conversion, with the draw v, has been served before it. -/
def State.haltedAfterService (s : State) (v : Byte) (ts : List Turn) : State :=
  { s.haltedForConversion ts with
    adsc := false, adres := some v, trace := s.trace ++ [.sense true, .serviced .adc] }

/-- With `I` = 1 the conversion that completes before `uSei` is served at the next engine turn (R151, R176). -/
theorem State.SampleStarts.run_served_early (h : s.SampleStarts) (hI : s.I = true) :
    Host.Core.run Sys2Proof.core 4 (s.converting ([.convert v, .engine, .engine, .engine] ++ ts)) =
      .next (s.haltedAfterService v ts) := by
  obtain ⟨⟨hf, -, hh, -, -⟩, -, hwdt, -⟩ := h
  have he : (s.converting ([.convert v, .engine, .engine, .engine] ++ ts)).convertEnabled = true := by
    simp [State.convertEnabled, State.ended, State.converting, hf]
  refine run_converts rfl hf he ?_
  refine run_serves_adc rfl ((State.serviceDue_iff _).2 ⟨hf, hI, rfl, .inr rfl⟩) hwdt ?_
  rw [State.service_adc]
  refine run_performs rfl hf (State.not_due hwdt rfl) (by simp [State.converting, hh]) rfl ?_
  refine run_performs rfl hf (State.serviceDue_of_shadow _ rfl) ?_ rfl (run_ends ?_)
  · simp [State.perform, State.converting, hh]
  · simp [State.perform, State.converting, State.convert, State.setI, State.setShadow, State.enterHalt,
      State.haltedAfterService, State.haltedForConversion]

/-- Settles O46: the early service leaves a hung engine, which the turns that follow leave hung. -/
theorem sampleEnteredUnmaskedCanHang : Obligations.SampleEnteredUnmaskedCanHang := by
  intro s v turns rest hw hdspwr hI hwdt hadc hr hs
  have h : s.SampleStarts := ⟨hw, hdspwr, hwdt, hadc⟩
  have hhung : (s.haltedAfterService v (turns ++ rest)).Hung := ⟨hw.noFault, rfl, rfl, rfl, rfl⟩
  obtain ⟨u, hu, ⟨hf, hh, hwait, hsc, hif⟩, hcp, hmq, late, htr, hlate⟩ := hhung.run_hangsTo rfl hr
  refine ⟨u, late, ?_, hf, hh, hwait, hsc, hif, hcp, hmq, ?_, htr, hlate⟩
  · rw [show 7 + turns.length = 3 + (4 + turns.length) by omega]
    exact (run_add 3 _ _ _ (h.run_beginning hs)).trans ((run_add 4 _ _ _ (h.run_served_early hI)).trans hu)
  · simp [State.ended, hf, hh]

end Sys2Proof.Machine
end
section
/-! PROOF. What a SAMPLE records (R143): `uRead` alone records a sample, and the invariant has its result
written by then. -/
namespace Sys2Proof.Machine

variable {s u : State} {t : Turn}

/-- No command records a sample in its fetch step. -/
theorem Executed.sampled_not_mem {i : Instr} (h : Executed s i u) :
    ∃ es, u.trace = s.trace ++ es ∧ ∀ v, .sampled v ∉ es := by
  cases h with
  | init => refine ⟨_, rfl, ?_⟩; cases s.ddata <;> simp
  | tx c0 c1 c2 => exact ⟨_, by rw [State.transmit_eq]; exact List.append_assoc .., by simp [bitEvents]⟩
  | rdreg rn v => exact ⟨_, rfl, by simp⟩
  | _ => exact ⟨[], by simp⟩

/-- A recorded sample is what `uRead` finds in `ADRES` (R143). -/
theorem Move.sampled (h : Move t s u) : ∃ es, u.trace = s.trace ++ es ∧
    ∀ v, .sampled v ∈ es → s.halted = false ∧ (∃ rest, s.mq = .uRead :: rest) ∧ v = s.adres := by
  cases h with
  | reset _ =>
    rw [State.resetStep_eq]
    refine ⟨_, rfl, ?_⟩
    split <;> simp
  | expire _ _ _ => exact ⟨_, rfl, by simp⟩
  | convert v _ _ _ => exact ⟨[], by simp⟩
  | service _ _ => exact ⟨_, State.service_trace _, by simp⟩
  | perform m rest _ _ _ hh hq =>
    refine ⟨_, State.perform_trace m, fun v hv => ?_⟩
    cases m with
    | uRead => exact ⟨hh, ⟨rest, hq⟩, by simpa [MicroOp.events] using hv⟩
    | _ => simp [MicroOp.events] at hv
  | illegal w e _ _ _ _ _ _ _ => exact ⟨[], by simp⟩
  | fetch w i _ _ _ _ _ _ _ _ he =>
    obtain ⟨es, hes, hno⟩ := (executed_of_exec he).sampled_not_mem
    exact ⟨es, hes, fun v hv => absurd hv (hno v)⟩
  | pass _ _ => exact ⟨[], by simp⟩

/-- The queue from `uRead` on holds no halt (R142). -/
theorem queueShape_uRead {kmax : MaxStage} {rest : List MicroOp} (h : queueShape kmax (.uRead :: rest)) :
    rest = [.uSensOff, .uDone] := by
  rcases napRest_or_sample_of_queueShape h (List.cons_ne_nil _ _) with hr | hs
  · cases hr
  · simpa [sampleQueue, List.suffix_cons_iff] using hs

/-- "`ADRES` is never ⊥ at `uRead`" (R143): the halt for its conversion is over. -/
theorem State.Inv.adres_isSome (h : s.Inv) (hh : s.halted = false) {rest : List MicroOp}
    (hq : s.mq = .uRead :: rest) : s.adres.isSome = true := by
  obtain rfl := queueShape_uRead (hq ▸ h.queue)
  simpa [hq, hh] using h.readHasResult

/-- Settles O60: a recorded sample is the result that `uRead` finds, which the invariant has written. -/
theorem samplesAreNeverUnwritten : Obligations.SamplesAreNeverUnwritten := by
  intro s u h hs hmem
  obtain ⟨es, hes, hread⟩ := (step_move s u hs).sampled
  rw [hes, State.passTurn_trace, List.drop_left] at hmem
  obtain ⟨hh, ⟨rest, hq⟩, hnone⟩ := hread none hmem
  have hsome := h.passTurn.adres_isSome hh hq
  rw [← hnone] at hsome
  cases hsome

end Sys2Proof.Machine
end
section
/-! PROOF. The control commands NOP, INIT, CLI, SEI and HALT (R152 to R160), TX and SAMPLE before INIT (R155), and
what RDREG finds in the register map (R39, R166). -/
namespace Sys2Proof.Machine

variable {s : State} {rn : RegNum} {v : Byte}

/-! ### NOP, INIT, CLI, SEI and HALT -/

/-- Settles O1: NOP is `State.complete` and nothing else. -/
theorem nopOnlyAdvances : Obligations.NopOnlyAdvances := ⟨by decide, fun _ => rfl⟩

/-- Settles O2, by whether the data pin was driven. -/
theorem initConfiguresPins : Obligations.InitConfiguresPins := by
  refine ⟨by decide, fun s => ?_⟩
  rw [exec, execInit]
  cases s.ddata with
  | true => rfl
  | false => rfl

/-- Settles O3: the two commands are `disableInterrupts` and `enableInterrupts`, and advance. -/
theorem cliAndSeiWriteMask : Obligations.CliAndSeiWriteMask :=
  ⟨by decide, by decide, fun _ => ⟨rfl, rfl⟩⟩

theorem encode_halt : encode .halt = 0x07000000#32 := by decide

/-- Settles O9: HALT is `State.enterHalt` with `uDone` queued. -/
theorem haltEntersHalt : Obligations.HaltEntersHalt := ⟨encode_halt, fun _ => rfl⟩

/-! ### Before INIT -/

theorem exec_sample_not_init (hd : s.dspwr = false) :
    exec .sample s = .next { s with fault := some ⟨.notInit, s.cp, 0x0B000000#32, none⟩ } := by
  rw [exec, execSample, if_neg (by simp [hd])]
  rfl

/-- Settles O12: each command tests its pin first (`exec_tx_not_init`, `exec_sample_not_init`). -/
theorem txAndSampleBeforeInitFault : Obligations.TxAndSampleBeforeInitFault :=
  fun _ => ⟨exec_tx_not_init, exec_sample_not_init⟩

/-! ### RDREG -/

theorem exec_rdreg_value (h : s.reg rn = .value v) :
    exec (.rdreg rn) s = .next { s with
      resp := some v, trace := s.trace ++ [.resp rn v], shadow := false, cp := s.cp + 1 } := by
  simp only [exec, execRdreg, h]
  rfl

theorem exec_rdreg_unwritten (h : s.reg rn = .unwritten) :
    exec (.rdreg rn) s = .next { s with
      fault := some ⟨.unwritten, s.cp, encode (.rdreg rn), some rn⟩ } := by
  simp only [exec, execRdreg, h, State.raise]

/-- One field of a register of single bits (R39). -/
theorem getLsbD_bitByte_shiftLeft (b : Bool) {k : Nat} (hk : k < 8) (j : Nat) :
    (bitByte b <<< k).getLsbD j = (decide (j = k) && b) := by
  rcases Nat.lt_trichotomy j k with hlt | rfl | hgt
  · simp [bitByte, hlt, hlt.ne]
  · simp [bitByte, hk]
  · simp [bitByte, BitVec.getLsbD_ofBool, hgt.ne', show ¬ j < k by omega, show j - k ≠ 0 by omega]

theorem getLsbD_bitByte (b : Bool) (j : Nat) : (bitByte b).getLsbD j = (decide (j = 0) && b) := by
  simpa using getLsbD_bitByte_shiftLeft b (k := 0) (by decide) j

/-! The fields of the four registers that never hold ⊥, from bit 0 on (R39). -/

theorem State.getLsbD_regStatus (s : State) (j : Nat) :
    s.regStatus.getLsbD j = [s.I, s.latchok, s.line].getD j false := by
  simp only [State.regStatus, BitVec.getLsbD_or, getLsbD_bitByte, getLsbD_bitByte_shiftLeft, Nat.reduceLT]
  match j with
  | 0 | 1 | 2 | _ + 3 => simp

theorem State.getLsbD_regIntctl (s : State) (j : Nat) :
    s.regIntctl.getLsbD j = [s.wdie, s.wdif, s.adie, s.adif].getD j false := by
  simp only [State.regIntctl, BitVec.getLsbD_or, getLsbD_bitByte, getLsbD_bitByte_shiftLeft, Nat.reduceLT]
  match j with
  | 0 | 1 | 2 | 3 | _ + 4 => simp

theorem State.getLsbD_regWdctl (s : State) (j : Nat) : s.regWdctl.getLsbD j =
    [s.wdk.getLsbD 0, s.wdk.getLsbD 1, s.wdk.getLsbD 2, s.wden].getD j false := by
  simp only [State.regWdctl, BitVec.getLsbD_or, BitVec.getLsbD_setWidth, getLsbD_bitByte_shiftLeft, Nat.reduceLT]
  match j with
  | 0 | 1 | 2 | 3 | _ + 4 => simp

theorem State.getLsbD_regPinctl (s : State) (j : Nat) : s.regPinctl.getLsbD j =
    [s.ddata, s.dspwr, s.spwr, s.didr, s.aden, s.adsc].getD j false := by
  simp only [State.regPinctl, BitVec.getLsbD_or, getLsbD_bitByte, getLsbD_bitByte_shiftLeft, Nat.reduceLT]
  match j with
  | 0 | 1 | 2 | 3 | 4 | 5 | _ + 6 => simp

/-! The halves of `NAPREM` by division (R39, R64). -/

theorem napremLow_eq_mod (r : Ticks) : napremLow r = BitVec.ofNat 8 (r.toNat % 256) := by
  apply BitVec.eq_of_toNat_eq
  simp [napremLow]

theorem napremHigh_eq_div (r : Ticks) : napremHigh r = BitVec.ofNat 8 (r.toNat / 256) := by
  apply BitVec.eq_of_toNat_eq
  simp [napremHigh, Nat.shiftRight_eq_div_pow]

/-- The registers of single bits, by their numbers in the map (R39). -/
theorem State.reg_of_bits {bits : List Bool} (h : (rn, bits) ∈
      [(0#4, [s.I, s.latchok, s.line]),
       (1#4, [s.wdie, s.wdif, s.adie, s.adif]),
       (2#4, [s.wdk.getLsbD 0, s.wdk.getLsbD 1, s.wdk.getLsbD 2, s.wden]),
       (9#4, [s.ddata, s.dspwr, s.spwr, s.didr, s.aden, s.adsc])]) :
    ∃ v, s.reg rn = .value v ∧ ∀ j, v.getLsbD j = bits.getD j false := by
  simp only [List.mem_cons, Prod.mk.injEq, List.not_mem_nil, or_false] at h
  rcases h with ⟨rfl, rfl⟩ | ⟨rfl, rfl⟩ | ⟨rfl, rfl⟩ | ⟨rfl, rfl⟩
  · exact ⟨_, rfl, s.getLsbD_regStatus⟩
  · exact ⟨_, rfl, s.getLsbD_regIntctl⟩
  · exact ⟨_, rfl, s.getLsbD_regWdctl⟩
  · exact ⟨_, rfl, s.getLsbD_regPinctl⟩

/-- The data registers, by their numbers in the map (R39). -/
theorem State.reg_of_data {data : Option Byte} (h : (rn, data) ∈
      [(3#4, s.color.c0), (4#4, s.color.c1), (5#4, s.color.c2), (6#4, s.sample),
       (7#4, s.naprem.map fun r => BitVec.ofNat 8 (r.toNat % 256)),
       (8#4, s.naprem.map fun r => BitVec.ofNat 8 (r.toNat / 256))]) :
    s.reg rn = .ofOption data := by
  simp only [← napremLow_eq_mod, ← napremHigh_eq_div, List.mem_cons, Prod.mk.injEq, List.not_mem_nil,
    or_false] at h
  rcases h with ⟨rfl, rfl⟩ | ⟨rfl, rfl⟩ | ⟨rfl, rfl⟩ | ⟨rfl, rfl⟩ | ⟨rfl, rfl⟩ | ⟨rfl, rfl⟩ <;> rfl

/-- Settles O8: RDREG answers what the map has at its number (`State.reg_of_bits`, `State.reg_of_data`), and the
decoder refuses the numbers above 9. -/
theorem rdregReadsRegisterMap : Obligations.RdregReadsRegisterMap := by
  intro s rn
  refine ⟨encode_rdreg rn, fun bits hbits => ?_, fun data hdata => ?_, fun hrn => ?_⟩
  · obtain ⟨v, hreg, hv⟩ := State.reg_of_bits hbits
    exact ⟨v, hv, exec_rdreg_value hreg⟩
  · have hreg := State.reg_of_data hdata
    refine ⟨fun v hv => exec_rdreg_value ?_, fun hnone => exec_rdreg_unwritten ?_⟩
    · rw [hreg, hv, RegRead.ofOption]
    · rw [hreg, hnone, RegRead.ofOption]
  · rw [decode_encode_rdreg, if_pos hrn]

end Sys2Proof.Machine
end
section
/-! PROOF. The engine's turn at a fetch, at a halt and at the end of the program (R151, R167, R208). -/
namespace Sys2Proof.Machine

variable {s : State}

/-- Settles O17: the fetch (`step_fetch`) of a word that decodes, and the two forms of a turn's use. -/
theorem stepRunsDecodedCommand : Obligations.StepRunsDecodedCommand := by
  refine ⟨fun s w i ht hw hi => ?_, fun s t rest hs => ?_, fun s hs => ?_⟩
  · rw [step_fetch ht hw, fetchStep, State.passTurn_cfg, hi]
  · exact ⟨s.turn_cons t rest hs, s.passTurn_cons t rest hs⟩
  · simp [State.turn, State.passTurn, hs]

/-- Settles O22: the conditions of `CMD_READY` are those of a fetch, but for the word. -/
theorem readyExactlyAtFetch : Obligations.ReadyExactlyAtFetch := by
  intro s w hw
  constructor
  · intro hr
    simp only [State.cmdReady, Bool.and_eq_true, Option.isNone_iff_eq_none, List.isEmpty_iff,
      Bool.not_eq_true'] at hr
    obtain ⟨⟨⟨hf, hh⟩, hq⟩, hd⟩ := hr
    exact ⟨hf, hd, hh, hq, hw⟩
  · rintro ⟨hf, hd, hh, hq, -⟩
    simp [State.cmdReady, hf, hd, hh, hq]

/-- The engine's turn at a halt with no service due (R151; log 5). -/
theorem step_halted_passes (ht : s.turn = .engine) (hf : s.fault = none) (hd : s.serviceDue = false)
    (hh : s.halted = true) : step s = .next s.passTurn := by
  simp [step, agentStep, ht, engineTurn, hf, hd, hh]

/-- The engine's turn at the end of the program with no service due (R151, R208; log 5). -/
theorem step_ended_passes (ht : s.turn = .engine) (hf : s.fault = none) (hd : s.serviceDue = false)
    (hh : s.halted = false) (hq : s.mq = []) (hend : s.prog[s.cp]? = none) : step s = .next s.passTurn := by
  simp [step, agentStep, ht, engineTurn, hf, hd, hh, hq, hend]

/-- Settles O21: a masked, shadowed or idle halt has no service due; and the end of the program leaves the engine
no word, and the countdown and the converter no step. -/
theorem withoutStepTurnPasses : Obligations.WithoutStepTurnPasses := by
  refine fun s hf => ⟨fun ht hh hno => ?_, fun hh hq hcp hd hr => ?_⟩
  · have hd : s.serviceDue = false := by
      rcases hno with hI | hsh | ⟨hw, ha⟩
      · exact s.serviceDue_of_masked hI
      · exact s.serviceDue_of_shadow hsh
      · exact State.not_due (by rw [State.pend, hw, Bool.and_false]) ha
    exact step_halted_passes ht hf hd hh
  · have hend : s.ended = true := by simp [State.ended, hh, hq, hcp, hd]
    cases ht : s.turn with
    | engine => exact step_ended_passes ht hf hd hh hq (by simp [hcp])
    | expire => exact step_countdown_passes ht hf (by simp [State.expireEnabled, hend])
    | convert v => exact step_converter_passes ht hf (by simp [State.convertEnabled, hend])
    | reset => exact absurd ht hr

end Sys2Proof.Machine
end
section
/-! PROOF. Halts: what ends one (R163), one that nothing ends (R161, R215), and one that is entered in SEI's shadow
with its source pending (R164). -/
namespace Sys2Proof.Machine

variable {s u : State} {t : Turn} {src : Source} {w : HaltWait} {ts turns rest : List Turn}

/-! ### What ends a halt -/

/-- A service ends the halts that wait for its source (R178). -/
theorem State.service_halted (s : State) (src : Source) :
    (s.service src).halted = (s.halted && !s.hwait.endedBy src) := by
  cases src with
  | wdt => rw [State.service_wdt]
  | adc => rw [State.service_adc]

/-- A move that ends a halt is a reset or a service of a source that the halt waits for (R163). -/
theorem Move.ends_halt (h : Move t s u) (hs : s.halted = true) (hu : u.halted = false) :
    t = .reset ∨ (t = .engine ∧ s.serviceDue = true ∧ s.hwait.endedBy s.highestPending = true ∧
      u = s.service s.highestPending) := by
  cases h with
  | reset ht => exact .inl ht
  | service ht hd =>
    rw [State.service_halted, hs] at hu
    exact .inr ⟨ht, hd, by simpa using hu, rfl⟩
  | expire _ _ _ | convert _ _ _ _ | pass _ _ => exact absurd (hs.symm.trans hu) (by decide)
  | perform _ _ _ _ _ hh _ | illegal _ _ _ _ _ hh _ _ _ | fetch _ _ _ _ _ _ hh _ _ _ _ =>
    exact absurd (hs.symm.trans hh) (by decide)

/-- Settles O52: the service that ends the halt is of a pending source (`State.pend_highestPending`), WDT or ADC. -/
theorem haltEndsOnlyByServiceOrReset : Obligations.HaltEndsOnlyByServiceOrReset := by
  intro s u hs hh hu
  refine ((step_move s u hs).ends_halt (by simpa using hh) hu).imp_right ?_
  rintro ⟨ht, hd, hended, rfl⟩
  have hpend := s.passTurn.pend_highestPending hd
  obtain ⟨-, hI, hsh, -⟩ := s.passTurn.serviceDue_iff.1 hd
  simp only [State.passTurn_I, State.passTurn_shadow, State.passTurn_hwait, State.passTurn_pend]
    at hI hsh hended hpend
  rw [State.service_trace, State.passTurn_trace]
  refine ⟨ht, hI, hsh, ?_⟩
  cases hsrc : s.passTurn.highestPending with
  | wdt =>
    rw [hsrc] at hended hpend
    obtain ⟨hif, hie⟩ := Bool.and_eq_true_iff.1 hpend
    exact .inl ⟨hif, hie, s.hwait.endedBy_wdt.1 hended, rfl⟩
  | adc =>
    rw [hsrc] at hended hpend
    obtain ⟨hif, hie⟩ := Bool.and_eq_true_iff.1 hpend
    exact .inr ⟨hif, hie, s.hwait.endedBy_adc.1 hended, rfl⟩

/-! ### A halt that nothing ends -/

/-- What every move but a reset keeps, and an unfaulted state has, holds after any turns without a reset. -/
theorem run_turns_keep (P : State → Prop) (hf : ∀ s, P s → s.fault = none) (hpass : ∀ s, P s → P s.passTurn)
    (hmove : ∀ t s u, P s → Move t s u → t ≠ .reset → P u) (h : P s) (hs : s.sched = turns ++ rest)
    (hr : .reset ∉ turns) : ∃ u, Host.Core.run Sys2Proof.core turns.length s = .next u ∧ P u := by
  induction turns generalizing s with
  | nil => exact ⟨s, rfl, h⟩
  | cons t turns ih =>
    obtain ⟨ht, hr⟩ := not_or.1 (mt List.mem_cons.2 hr)
    obtain ⟨v, hv⟩ := step_answers_next (hf s h)
    have hm := step_move s v hv
    rw [s.turn_cons t (turns ++ rest) hs] at hm
    have hsched : v.sched = turns ++ rest := hm.sched.trans (by rw [s.passTurn_cons t _ hs]; rfl)
    obtain ⟨u, hu, hPu⟩ := ih (hmove t _ v (hpass s h) hm (Ne.symm ht)) hsched hr
    exact ⟨u, by rwa [List.length_cons, run_succ _ _ _ hv], hPu⟩

/-- No source can be served: the engine is masked, or nothing is pending and nothing is on its way (R161). -/
def State.NothingComes (s : State) : Prop :=
  s.I = false ∨ (s.pend .wdt = false ∧ s.pend .adc = false ∧ s.adsc = false ∧ (s.wden = false ∨ s.wdie = false))

theorem State.NothingComes.not_due (h : s.NothingComes) : s.serviceDue = false := by
  rcases h with hI | ⟨hw, ha, -, -⟩
  · exact s.serviceDue_of_masked hI
  · exact State.not_due (by rw [hw, Bool.and_false]) ha

/-- An expiry sets a flag whose interrupt is disabled. -/
theorem State.NothingComes.expire (h : s.NothingComes) (he : s.expireEnabled = true) : s.expire.NothingComes := by
  refine h.imp_right ?_
  rintro ⟨-, ha, hsc, hcd⟩
  obtain ⟨hen, -⟩ := Bool.and_eq_true_iff.1 he
  have hie : s.wdie = false := hcd.resolve_left (by simp [hen])
  exact ⟨by simp [State.pend, hie], ha, hsc, .inr hie⟩

/-- A conversion can complete only while the engine is masked. -/
theorem State.NothingComes.convert (h : s.NothingComes) (v : Byte) (he : s.convertEnabled = true) :
    (s.convert v).NothingComes := by
  rcases h with hI | ⟨-, -, hsc, -⟩
  · exact .inl hI
  · simp [State.convertEnabled, hsc] at he

/-- u is in the halt of s, and nothing will end it. -/
structure State.StuckAs (s u : State) : Prop where
  noFault : u.fault = none
  halted  : u.halted = true
  nothing : u.NothingComes
  I       : u.I = s.I
  cp      : u.cp = s.cp
  mq      : u.mq = s.mq

theorem State.StuckAs.passTurn (h : s.StuckAs u) : s.StuckAs u.passTurn := by
  obtain ⟨hf, hh, hno, hI, hcp, hmq⟩ := h
  exact ⟨by simpa, by simpa, by simpa [State.NothingComes] using hno, by simpa, by simpa, by simpa⟩

/-- No move but a reset leads out of a halt that nothing ends (R163). -/
theorem State.StuckAs.move {v : State} (h : s.StuckAs u) (hm : Move t u v) (hr : t ≠ .reset) : s.StuckAs v := by
  obtain ⟨hf, hh, hno, hI, hcp, hmq⟩ := h
  cases hm with
  | reset ht => exact absurd ht hr
  | expire _ _ he => exact ⟨hf, hh, hno.expire he, hI, hcp, hmq⟩
  | convert v _ _ he => exact ⟨hf, hh, hno.convert v he, hI, hcp, hmq⟩
  | service _ hd => exact absurd (hno.not_due.symm.trans hd) (by decide)
  | perform _ _ _ _ _ hh' _ | illegal _ _ _ _ _ hh' _ _ _ | fetch _ _ _ _ _ _ hh' _ _ _ _ =>
    exact absurd (hh.symm.trans hh') (by decide)
  | pass _ _ => exact ⟨hf, hh, hno, hI, hcp, hmq⟩

/-- Settles O43: the turns keep the halt (`run_turns_keep`), and a halted run without a fault has not ended. -/
theorem haltThatNothingEndsIsPermanent : Obligations.HaltThatNothingEndsIsPermanent := by
  intro turns rest s hf hh hno hs hr
  obtain ⟨u, hu, ⟨hfu, hhu, -, hI, hcp, hmq⟩⟩ := run_turns_keep s.StuckAs (fun _ h => h.noFault)
    (fun _ h => h.passTurn) (fun _ _ _ h => h.move) ⟨hf, hh, hno, rfl, rfl, rfl⟩ hs hr
  exact ⟨u, hu, hhu, hI, hcp, hmq, by simp [State.ended, hfu, hhu]⟩

/-! ### A halt entered in SEI's shadow -/

/-- The engine in the halt w, with the queue q and the turns ts left. -/
def State.inHalt (s : State) (w : HaltWait) (q : List MicroOp) (ts : List Turn) : State :=
  { s with mq := q, sched := ts, halted := true, hwait := w, shadow := false }

/-- The engine's next step enters the halt w: a micro-operation's or that of HALT (R160, R162). -/
def State.EntersHalt (s : State) (w : HaltWait) : Prop :=
  (∃ q, s.mq = .uHaltUntil w :: q) ∨ (w = .any ∧ s.mq = [] ∧ s.prog[s.cp]? = some 0x07000000#32)

theorem State.EntersHalt.step (h : s.EntersHalt w) (hs : s.sched = .engine :: ts) (hf : s.fault = none)
    (hd : s.serviceDue = false) (hh : s.halted = false) : ∃ q, step s = .next (s.inHalt w q ts) := by
  have ht := s.turn_cons _ _ hs
  rcases h with ⟨q, hq⟩ | ⟨rfl, hq, hw⟩
  · refine ⟨q, ?_⟩
    rw [stepPerformsQueueHead s _ q ht hf hd hh hq, s.passTurn_cons _ _ hs]
    rfl
  · refine ⟨[.uDone], ?_⟩
    rw [← encode_halt] at hw
    rw [stepRunsDecodedCommand.1 s _ .halt ht ⟨hf, hd, hh, hq, hw⟩ (decodeOfEncode _ .halt rfl),
      s.passTurn_cons _ _ hs]
    rfl

/-- A source is pending with nothing that holds its service off but a source of higher priority (R176, R177). -/
structure State.Serves (s : State) (src : Source) : Prop where
  noFault  : s.fault = none
  unmasked : s.I = true
  noShadow : s.shadow = false
  pending  : s.pend src = true

theorem State.Serves.serviceDue (h : s.Serves src) : s.serviceDue = true := by
  refine s.serviceDue_iff.2 ⟨h.noFault, h.unmasked, h.noShadow, ?_⟩
  cases src with
  | wdt => exact .inl h.pending
  | adc => exact .inr h.pending

/-- ADC stays as it is through a service of WDT. -/
theorem State.Serves.service_wdt (h : s.Serves .adc) : (s.service .wdt).Serves .adc := by
  obtain ⟨hf, -, -, hp⟩ := h
  rw [State.service_wdt]
  exact ⟨hf, rfl, rfl, hp⟩

/-- The source is served at the first engine turn, or at the second if WDT goes first, and a halt that waits for it
is over then (R177, R178). -/
theorem State.Serves.run_served (h : s.Serves src) (hended : s.hwait.endedBy src = true)
    (hs : s.sched = .engine :: .engine :: ts) :
    ∃ n u, 1 ≤ n ∧ n ≤ 2 ∧ Host.Core.run Sys2Proof.core n s = .next u ∧ u.halted = false ∧
      .serviced src ∈ u.trace.drop s.trace.length ∧ u.cp = s.cp := by
  cases src with
  | wdt =>
    refine ⟨1, _, le_rfl, by decide, run_serves_wdt hs h.serviceDue h.pending rfl, ?_, ?_, ?_⟩
    · simp [State.service_halted, hended]
    · simp
    · simp
  | adc =>
    cases hwdt : s.pend .wdt with
    | false =>
      refine ⟨1, _, le_rfl, by decide, run_serves_adc hs h.serviceDue hwdt rfl, ?_, ?_, ?_⟩
      · simp [State.service_halted, hended]
      · simp
      · simp
    | true =>
      have hpassed : ({ s with sched := .engine :: ts } : State).Serves .adc := 
        ⟨h.noFault, h.unmasked, h.noShadow, h.pending⟩
      have hnext := hpassed.service_wdt
      have hsched : (({ s with sched := .engine :: ts } : State).service .wdt).sched = .engine :: ts := by
        rw [State.service_wdt]
      have hserved : (({ s with sched := .engine :: ts } : State).service .wdt).pend .wdt = false := by
        simp [State.service_wdt, State.pend]
      refine ⟨2, _, by decide, le_rfl, run_serves_wdt hs h.serviceDue hwdt
        (run_serves_adc hsched hnext.serviceDue hserved rfl), ?_, ?_, ?_⟩
      · simp [State.service_wdt, State.service_adc, hended]
      · simp
      · simp

/-- Settles O42: in the shadow no service is due, so the halt is entered first (`State.EntersHalt.step`); it ends the
shadow, and the source is served after it (`State.Serves.run_served`). -/
theorem noMissedWake : Obligations.NoMissedWake := by
  intro s src w rest hf hh hI hsh hp hended henters hs
  obtain ⟨q, hstep⟩ := State.EntersHalt.step henters hs hf (s.serviceDue_of_shadow hsh) hh
  have hserves : (s.inHalt w q (.engine :: .engine :: rest)).Serves src := by
    refine ⟨hf, hI, rfl, ?_⟩
    cases src <;> exact hp
  refine ⟨⟨_, run_succ 0 _ _ hstep, rfl, rfl, hserves.pending, rfl, rfl⟩, ?_⟩
  obtain ⟨n, u, h1, h2, hrun, hhu, htr, hcp⟩ := hserves.run_served hended rfl
  exact ⟨n + 1, u, by omega, by omega, (run_succ n _ _ hstep).trans hrun, hhu, htr, hcp⟩

end Sys2Proof.Machine
end
section
/-! PROOF. The stop after a model fault (R171), services (R176 to R178), and the writers of the two interrupt flags
(R174). -/
namespace Sys2Proof.Machine

variable {s u : State} {t : Turn} {src : Source}

/-! ### The stop after a fault -/

/-- Settles O16: the engine, the countdown and the converter each look at `FAULT` before anything else. -/
theorem faultedMachineStops : Obligations.FaultedMachineStops := by
  intro s f hf hr
  have hf' : s.passTurn.fault = some f := by simpa using hf
  rw [step, agentStep]
  cases ht : s.turn with
  | engine => simp only [engineTurn, hf']
  | expire => simp only [countdownTurn, hf']
  | convert v => simp only [converterTurn, hf']
  | reset => exact absurd ht hr

/-! ### Services -/

/-- A service that comes with `I` = 1 and no shadow, as every due one does, leaves both as they are (R178). -/
theorem State.service_of_unmasked (hI : s.I = true) (hsh : s.shadow = false) :
    s.service src = { s.clearFlag src with
      trace := s.trace ++ [.serviced src], halted := s.halted && !s.hwait.endedBy src } := by
  cases src with
  | wdt => simp [State.service_wdt, hI, hsh]
  | adc => simp [State.service_adc, hI, hsh]

theorem HaltWait.not_endedBy_wdt (w : HaltWait) : (!w.endedBy .wdt) = decide (w = .adc) := by
  cases w <;> rfl

theorem HaltWait.not_endedBy_adc (w : HaltWait) : (!w.endedBy .adc) = decide (w = .wdt) := by
  cases w <;> rfl

/-- Settles O20: the due service is the step (`step_serves`), of WDT if that is pending and else of ADC. -/
theorem dueServiceIsTaken : Obligations.DueServiceIsTaken := by
  intro s ht hf hI hsh
  have hserve (src : Source) : s.passTurn.service src = _ :=
    State.service_of_unmasked (by simpa using hI) (by simpa using hsh)
  refine ⟨fun hif hie => ?_, fun hw hif hie => ?_⟩
  · have hp : s.pend .wdt = true := by simp [State.pend, hif, hie]
    rw [step_serves ht (s.serviceDue_iff.2 ⟨hf, hI, hsh, .inl hp⟩), State.highestPending, if_pos hp, hserve]
    simp [HaltWait.not_endedBy_wdt]
  · have hp : s.pend .adc = true := by simp [State.pend, hif, hie]
    have hno : ¬ s.pend .wdt = true := by simp [State.pend, hw]
    rw [step_serves ht (s.serviceDue_iff.2 ⟨hf, hI, hsh, .inr hp⟩), State.highestPending, if_neg hno, hserve]
    simp [HaltWait.not_endedBy_adc]

/-- The events that commands and their micro-operations emit; the others are those of expiries, services and
resets (R45 to R47). -/
def Event.ofCommand : Event → Bool
  | .seg _ _ | .frame _ _ _ _ | .line _ | .slept _ | .sense _ | .sampled _ | .resp _ _ => true
  | .expire _ | .serviced _ | .reset => false

theorem MicroOp.events_ofCommand (m : MicroOp) : ∀ e ∈ m.events s, e.ofCommand = true := by
  cases m <;> simp [MicroOp.events, Event.ofCommand]

theorem Executed.events_ofCommand {i : Instr} (h : Executed s i u) :
    ∃ es, u.trace = s.trace ++ es ∧ ∀ e ∈ es, e.ofCommand = true := by
  cases h with
  | init => refine ⟨_, rfl, ?_⟩; cases s.ddata <;> simp [Event.ofCommand]
  | tx c0 c1 c2 =>
    refine ⟨_, by rw [State.transmit_eq]; exact List.append_assoc .., fun e he => ?_⟩
    simp only [bitEvents, List.mem_append, List.mem_flatMap, List.mem_cons, List.not_mem_nil, or_false] at he
    rcases he with ⟨b, -, rfl | rfl⟩ | rfl <;> rfl
  | rdreg rn v => exact ⟨_, rfl, by simp [Event.ofCommand]⟩
  | _ => exact ⟨[], by simp⟩

/-- A recorded service is one that was due, of the source it takes (R176, R177). -/
theorem Move.serviced (h : Move t s u) : ∃ es, u.trace = s.trace ++ es ∧
    ∀ src, .serviced src ∈ es → t = .engine ∧ s.serviceDue = true ∧ src = s.highestPending := by
  cases h with
  | reset _ =>
    rw [State.resetStep_eq]
    refine ⟨_, rfl, ?_⟩
    split <;> simp
  | expire _ _ _ => exact ⟨_, rfl, by simp⟩
  | service ht hd => exact ⟨_, State.service_trace _, fun src hsrc => ⟨ht, hd, by simpa using hsrc⟩⟩
  | perform m rest _ _ _ _ _ =>
    exact ⟨_, State.perform_trace m, fun src hsrc => by cases m.events_ofCommand _ hsrc⟩
  | fetch w i _ _ _ _ _ _ _ _ he =>
    obtain ⟨es, hes, hcmd⟩ := (executed_of_exec he).events_ofCommand
    exact ⟨es, hes, fun src hsrc => by cases hcmd _ hsrc⟩
  | convert _ _ _ _ | illegal _ _ _ _ _ _ _ _ _ | pass _ _ => exact ⟨[], by simp⟩

/-- Settles O53: a recorded service was due, and the source it takes is pending (`State.pend_highestPending`). -/
theorem servicesNeedEnabledPendingSource : Obligations.ServicesNeedEnabledPendingSource := by
  intro s u src hs hmem
  obtain ⟨es, hes, hserviced⟩ := (step_move s u hs).serviced
  rw [hes, State.passTurn_trace, List.drop_left] at hmem
  obtain ⟨ht, hd, rfl⟩ := hserviced src hmem
  obtain ⟨hf, hI, hsh, -⟩ := s.passTurn.serviceDue_iff.1 hd
  have hp := s.passTurn.pend_highestPending hd
  exact ⟨ht, by simpa using hf, by simpa using hI, by simpa using hsh, by simpa using hp⟩

/-! ### Writers of the flags -/

theorem Executed.wdif {i : Instr} (h : Executed s i u) :
    u.wdif = s.wdif ∨ (u.wdif = false ∧ (i = .wdstop ∨ ∃ k, i = .wdcfg k)) := by
  cases h <;> simp [State.transmit_eq]

theorem State.perform_wdif (m : MicroOp) : (s.perform m).wdif = s.wdif ∨
    ((s.perform m).wdif = false ∧ (m = .uDisarm ∨ ∃ k, m = .uArm k)) := by
  cases m <;> simp [State.perform]

/-- What an agent's move does to `WDIF` (R174). -/
theorem Move.wdif (h : Move t s u) : u.wdif = s.wdif ∨
    (u.wdif = true ∧ t = .expire ∧ s.wden = true) ∨
    (u.wdif = false ∧ (t = .reset ∨ (t = .engine ∧
      (u.trace = s.trace ++ [.serviced .wdt] ∨ s.mq.head? = some .uDisarm ∨
        (∃ k, s.mq.head? = some (.uArm k)) ∨ s.Fetching (encode .wdstop) ∨
        ∃ k, s.Fetching (encode (.wdcfg k)))))) := by
  cases h with
  | reset ht => exact .inr (.inr ⟨by simp [State.resetStep_eq, State.reset], .inl ht⟩)
  | expire ht _ he => exact .inr (.inl ⟨rfl, ht, (Bool.and_eq_true_iff.1 he).1⟩)
  | service ht _ =>
    cases s.highestPending with
    | wdt => exact .inr (.inr ⟨by rw [State.service_wdt], .inr ⟨ht, .inl (State.service_trace _)⟩⟩)
    | adc => exact .inl (by rw [State.service_adc])
  | perform m rest ht _ _ _ hq =>
    rcases State.perform_wdif (s := s.setQueue rest) m with hif | ⟨hif, rfl | ⟨k, rfl⟩⟩
    · exact .inl hif
    · exact .inr (.inr ⟨hif, .inr ⟨ht, .inr (.inl (by rw [hq]; rfl))⟩⟩)
    · exact .inr (.inr ⟨hif, .inr ⟨ht, .inr (.inr (.inl ⟨k, by rw [hq]; rfl⟩))⟩⟩)
  | fetch w i _ ht hf hd hh hq hw hi he =>
    have hfetch := fetching_of_decode hf hd hh hq hw hi
    rcases (executed_of_exec he).wdif with hif | ⟨hif, rfl | ⟨k, rfl⟩⟩
    · exact .inl hif
    · exact .inr (.inr ⟨hif, .inr ⟨ht, .inr (.inr (.inr (.inl hfetch)))⟩⟩)
    · exact .inr (.inr ⟨hif, .inr ⟨ht, .inr (.inr (.inr (.inr ⟨k, hfetch⟩)))⟩⟩)
  | convert _ _ _ _ | illegal _ _ _ _ _ _ _ _ _ | pass _ _ => exact .inl rfl

/-- No command writes `ADIF` in its fetch step. -/
theorem Executed.adif {i : Instr} (h : Executed s i u) : u.adif = s.adif := by
  cases h <;> simp [State.transmit_eq]

theorem State.perform_adif (m : MicroOp) : (s.perform m).adif = s.adif ∨
    ((s.perform m).adif = false ∧ (m = .uAdcStart ∨ m = .uSensOff)) := by
  cases m <;> simp [State.perform]

/-- What an agent's move does to `ADIF` (R174). -/
theorem Move.adif (h : Move t s u) : u.adif = s.adif ∨
    (u.adif = true ∧ ∃ v, t = .convert v ∧ s.adsc = true ∧ s.aden = true) ∨
    (u.adif = false ∧ (t = .reset ∨ (t = .engine ∧
      (u.trace = s.trace ++ [.serviced .adc] ∨ s.mq.head? = some .uAdcStart ∨
        s.mq.head? = some .uSensOff)))) := by
  cases h with
  | reset ht => exact .inr (.inr ⟨by simp [State.resetStep_eq, State.reset], .inl ht⟩)
  | convert v ht _ he =>
    obtain ⟨hbusy, -⟩ := Bool.and_eq_true_iff.1 he
    exact .inr (.inl ⟨rfl, v, ht, Bool.and_eq_true_iff.1 hbusy⟩)
  | service ht _ =>
    cases s.highestPending with
    | wdt => exact .inl (by rw [State.service_wdt])
    | adc => exact .inr (.inr ⟨by rw [State.service_adc], .inr ⟨ht, .inl (State.service_trace _)⟩⟩)
  | perform m rest ht _ _ _ hq =>
    rcases State.perform_adif (s := s.setQueue rest) m with hif | ⟨hif, rfl | rfl⟩
    · exact .inl hif
    · exact .inr (.inr ⟨hif, .inr ⟨ht, .inr (.inl (by rw [hq]; rfl))⟩⟩)
    · exact .inr (.inr ⟨hif, .inr ⟨ht, .inr (.inr (by rw [hq]; rfl))⟩⟩)
  | fetch w i _ _ _ _ _ _ _ _ he => exact .inl (executed_of_exec he).adif
  | expire _ _ _ | illegal _ _ _ _ _ _ _ _ _ | pass _ _ => exact .inl rfl

/-- Settles O56: a flag that a step sets or clears is not as it was before the move, which leaves what
`Move.wdif` and `Move.adif` name. -/
theorem flagWriters : Obligations.FlagWriters := by
  intro s u hs
  have hwdif := (step_move s u hs).wdif
  have hadif := (step_move s u hs).adif
  refine ⟨fun h h' => ?_, fun h h' => ?_, fun h h' => ?_, fun h h' => ?_⟩
  · simpa [h, h'] using hwdif
  · simpa [h, h'] using hwdif
  · simpa [h, h'] using hadif
  · simpa [h, h'] using hadif

end Sys2Proof.Machine
end
section
/-! PROOF. What stands after a reset and at launch: the reset values of R44, and the invariant (R200, R207). -/
namespace Sys2Proof.Machine

/-- Settles O25: the environment's step is `State.resetStep`, whose whole effect is written out once. -/
theorem resetFromEveryState : Obligations.ResetFromEveryState := by
  intro s ht
  rw [step, agentStep, ht]
  change Host.Outcome.next s.passTurn.resetStep = _
  simp [State.resetStep_eq, State.reset]

/-- A launch state is what a reset would leave of it but for the trace, which the invariant does not speak of. -/
theorem State.Inv.launch (prog : List Word) (sched : List Turn) : (State.launch prog sched).Inv :=
  { State.Inv.resetStep (s := State.launch prog sched) with }

/-- Settles O48: the reset state is the launch state of the empty program and schedule. -/
theorem invariantHoldsAtLaunch : Obligations.InvariantHoldsAtLaunch :=
  ⟨.launch [] [], .launch⟩

end Sys2Proof.Machine
end
section
/-! PROOF. The halts of NAP and SAMPLE (R126, R142, R143, R215): what holds of the command in progress through every
sequence of turns without a reset, so that its halt finds its own source enabled, and running or pending. -/
namespace Sys2Proof.Machine

variable {s u v : State} {t : Turn} {turns rest : List Turn} {i : Instr} {w : HaltWait} {runs : State → Prop}

/-! ### Runs within one command -/

/-- What a turn does in which the engine fetches or performs; at the end of the program it does nothing (R151). -/
theorem Move.of_movesCommand (h : Move t s u) (hm : MovesCommand t s) :
    u = s ∨ (∃ m q, s.mq = m :: q ∧ u = (s.setQueue q).perform m) ∨
      (s.mq = [] ∧ ∃ x, s.prog[s.cp]? = some x ∧ fetchStep x s = .next u) := by
  obtain ⟨rfl, hnd, -⟩ := hm
  cases h with
  | service _ hd => exact absurd (hnd.symm.trans hd) (by decide)
  | perform m q _ _ _ _ hq => exact .inr (.inl ⟨m, q, hq, rfl⟩)
  | illegal x e _ _ _ _ hq hw hi => exact .inr (.inr ⟨hq, x, hw, by rw [fetchStep, hi]⟩)
  | fetch x j _ _ _ _ _ hq hw hi he => exact .inr (.inr ⟨hq, x, hw, by rw [fetchStep, hi]; exact he⟩)
  | pass _ _ => exact .inl rfl
  | reset ht | expire ht _ _ | convert _ ht _ _ => cases ht

/-- Without a reset `CP` does not move back (R22). -/
theorem Move.cp_le (h : Move t s u) (hr : t ≠ .reset) : s.cp ≤ u.cp := by
  rcases h.cp with hcp | ⟨hcp, -⟩ | ⟨-, ht⟩
  · exact hcp.ge
  · omega
  · exact absurd ht hr

/-- What every move without a reset keeps or ends by moving `CP` on holds for as long as `CP` is where it was. -/
theorem run_keeps_in_command (P : State → Prop) (hpass : ∀ v, P v → P v.passTurn)
    (hmove : ∀ t v u, P v → Move t v u → t ≠ .reset → P u ∨ s.cp < u.cp) (h : P s)
    (hs : s.sched = turns ++ rest) (hr : .reset ∉ turns)
    (hrun : Host.Core.run Sys2Proof.core turns.length s = .next u) (hcp : u.cp = s.cp) : P u := by
  suffices hk : ∀ ts v, v.sched = ts ++ rest → .reset ∉ ts → (P v ∨ s.cp < v.cp) →
      Host.Core.run Sys2Proof.core ts.length v = .next u → P u ∨ s.cp < u.cp from
    (hk turns s hs hr (.inl h) hrun).resolve_right (by omega)
  intro ts
  induction ts with
  | nil =>
    intro v _ _ hv hrun
    cases hrun
    exact hv
  | cons t ts ih =>
    intro v hs hr hv hrun
    obtain ⟨ht, hr⟩ := not_or.1 (mt List.mem_cons.2 hr)
    obtain ⟨x, hx, hrun⟩ := run_succ_inv _ _ _ hrun
    have hm := step_move v x hx
    rw [v.turn_cons t _ hs] at hm
    refine ih x (hm.sched.trans (by rw [v.passTurn_cons t _ hs]; rfl)) hr ?_ hrun
    rcases hv with hv | hv
    · exact hmove t _ x (hpass v hv) hm (Ne.symm ht)
    · exact .inr (hv.trans_le (by simpa using hm.cp_le (Ne.symm ht)))

/-! ### A command that halts for its source -/

/-- A state of the command i, fetched in s, whose halts are for w: its source runs from before `uSei` until the halt
has ended, and the halt is entered in the shadow of `uSei` (R126, R142). -/
structure State.InCommand (s : State) (i : Instr) (w : HaltWait) (runs : State → Prop) (v : State) : Prop where
  cp       : v.cp = s.cp
  atFetch  : v.mq = [] → v.prog[v.cp]? = some (encode i)
  armed    : ∀ q, v.mq = .uSei :: .uHaltUntil w :: q → runs v
  entering : ∀ q, v.mq = .uHaltUntil w :: q → v.I = true ∧ v.shadow = true ∧ runs v
  halt     : v.halted = true → v.hwait = w ∧ v.I = true ∧ v.shadow = false ∧ runs v

/-- The next micro-operation neither enables interrupts for a halt nor enters one. -/
def NoHaltAhead (q : List MicroOp) : Prop := (∀ r, q ≠ .uSei :: r) ∧ ∀ w r, q ≠ .uHaltUntil w :: r

theorem StagesLeft.noHaltAhead {q : List MicroOp} (h : StagesLeft q) : NoHaltAhead q := by
  cases h <;> simp [NoHaltAhead, stageMops]

/-- At its fetch a command is in progress. -/
theorem State.Fetching.inCommand (h : s.Fetching (encode i)) : s.InCommand i w runs s where
  cp := rfl
  atFetch _ := h.word
  armed := by simp [h.idle]
  entering := by simp [h.idle]
  halt := by simp [h.running]

/-- Outside the halt and the steps towards it, the source need not run. -/
theorem State.InCommand.between (hcp : v.cp = s.cp) (hne : v.mq ≠ []) (hh : v.halted = false)
    (hq : NoHaltAhead v.mq) : s.InCommand i w runs v where
  cp := hcp
  atFetch h := absurd h hne
  armed q h := absurd h (hq.1 _)
  entering q h := absurd h (hq.2 w q)
  halt h := absurd (hh.symm.trans h) (by decide)

/-- A turn that moves no command keeps what holds of it, if the source keeps running where it has to: before `uSei`,
in its shadow, and in a halt that does not end. -/
theorem State.InCommand.of_idle (h : s.InCommand i w runs v) (hi : Idle t v u)
    (hruns : ((∃ q, v.mq = .uSei :: q) ∨ v.shadow = true ∨ (v.hwait = w ∧ u.halted = true)) → runs v → runs u) :
    s.InCommand i w runs u where
  cp := hi.cp.trans h.cp
  atFetch := by rw [hi.mq, hi.prog, hi.cp]; exact h.atFetch
  armed q hq := by
    rw [hi.mq] at hq
    exact hruns (.inl ⟨_, hq⟩) (h.armed q hq)
  entering q hq := by
    rw [hi.mq] at hq
    obtain ⟨hI, hsh, hr⟩ := h.entering q hq
    exact ⟨hi.I.trans hI, hi.shadow.trans hsh, hruns (.inr (.inl hsh)) hr⟩
  halt hu := by
    obtain ⟨hw, hI, hsh, hr⟩ := h.halt (hi.halted hu)
    exact ⟨hi.hwait.trans hw, hi.I.trans hI, hi.shadow.trans hsh, hruns (.inr (.inr ⟨hw, hu⟩)) hr⟩

/-- `uSei` enables interrupts under its shadow (R159). -/
theorem State.InCommand.perform_uSei (h : s.InCommand i w runs v) (hh : v.halted = false) {q : List MicroOp}
    (hq : v.mq = .uSei :: .uHaltUntil w :: q)
    (hruns : runs v → runs ((v.setQueue (.uHaltUntil w :: q)).perform .uSei)) :
    s.InCommand i w runs ((v.setQueue (.uHaltUntil w :: q)).perform .uSei) where
  cp := h.cp
  atFetch := by simp
  armed := by simp
  entering _ _ := ⟨rfl, rfl, hruns (h.armed q hq)⟩
  halt hu := absurd (hh.symm.trans hu) (by decide)

/-- The halt ends the shadow it is entered in (R162). -/
theorem State.InCommand.perform_uHaltUntil (h : s.InCommand i w runs v) {q : List MicroOp}
    (hq : v.mq = .uHaltUntil w :: .uCli :: q)
    (hruns : runs v → runs ((v.setQueue (.uCli :: q)).perform (.uHaltUntil w))) :
    s.InCommand i w runs ((v.setQueue (.uCli :: q)).perform (.uHaltUntil w)) where
  cp := h.cp
  atFetch := by simp
  armed := by simp
  entering := by simp
  halt _ := by
    obtain ⟨hI, -, hr⟩ := h.entering _ hq
    exact ⟨rfl, hI, rfl, hruns hr⟩

theorem State.passTurn_idle : Idle t s s.passTurn := by
  constructor <;> simp +contextual

/-! ### NAP -/

/-- The countdown runs with its interrupt enabled. -/
def State.CountdownRuns (v : State) : Prop := v.wden = true ∧ v.wdie = true

/-- A state of the NAP n fetched in s. -/
structure State.InNap (s : State) (n : Ticks) (v : State) : Prop where
  command : s.InCommand (.nap n) .wdt State.CountdownRuns v
  queue   : v.mq ≠ [] → NapRest v.mq

theorem State.InNap.of_idle {n : Ticks} (h : s.InNap n v) (hi : Idle t v u) : s.InNap n u where
  command := h.command.of_idle hi fun _ hr => ⟨hi.wden.trans hr.1, hi.wdie.trans hr.2⟩
  queue := by rw [hi.mq]; exact h.queue

/-- Each micro-operation of a NAP leaves a state of the NAP, but `uDone`, which moves `CP` on (R126, R128). -/
theorem State.InNap.perform {n : Ticks} (h : s.InNap n v) (hh : v.halted = false) {m : MicroOp}
    {q : List MicroOp} (hq : v.mq = m :: q) :
    s.InNap n ((v.setQueue q).perform m) ∨ s.cp < ((v.setQueue q).perform m).cp := by
  obtain ⟨hc, hrest⟩ := h
  have hr : NapRest (m :: q) := hq ▸ hrest (by simp [hq])
  suffices hk : s.InCommand (.nap n) .wdt State.CountdownRuns ((v.setQueue q).perform m) ∨
      s.cp < ((v.setQueue q).perform m).cp from
    hk.imp_left fun hc => ⟨hc, fun hne => by simpa using hr.tail.resolve_left (by simpa using hne)⟩
  cases hr with
  | setRem _ hs => exact .inl (.between hc.cp hs.napRest.ne_nil hh hs.noHaltAhead)
  | arm k hs =>
    exact .inl ⟨hc.cp, by simp, fun _ _ => ⟨rfl, rfl⟩, by simp, by simp [State.perform, hh]⟩
  | sei k hs => exact .inl (hc.perform_uSei hh hq id)
  | halt k hs => exact .inl (hc.perform_uHaltUntil hq id)
  | wake k hs => exact .inl (.between hc.cp (by simp) hh (by simp [NoHaltAhead]))
  | sub k hs => exact .inl (.between hc.cp hs.napRest.ne_nil hh hs.noHaltAhead)
  | disarm => exact .inl (.between hc.cp (by simp) hh (by simp [NoHaltAhead]))
  | mask => exact .inl (.between hc.cp (by simp) hh (by simp [NoHaltAhead]))
  | done => exact .inr (by simp [State.perform, hc.cp])

theorem State.InNap.move {n : Ticks} (h : s.InNap n v) (hm : Move t v u) (hr : t ≠ .reset) :
    s.InNap n u ∨ s.cp < u.cp := by
  by_cases hmc : MovesCommand t v
  · rcases hm.of_movesCommand hmc with rfl | ⟨m, q, hq, rfl⟩ | ⟨hq, x, hx, hfetch⟩
    · exact .inl h
    · exact h.perform hmc.2.2 hq
    · obtain rfl : encode (.nap n) = x := Option.some.inj ((h.command.atFetch hq).symm.trans hx)
      rw [fetchStep_nap] at hfetch
      cases hfetch
      exact .inl ⟨.between h.command.cp (napQueue_napRest _ n).ne_nil hmc.2.2 (by simp [NoHaltAhead, napQueue]),
        fun _ => napQueue_napRest _ n⟩
  · exact .inl (h.of_idle (hm.idle hr hmc))

/-! ### SAMPLE -/

/-- The converter's interrupt is enabled, and its conversion is in progress, has its flag standing, or was serviced
after the SAMPLE was fetched in s with `I` = 1 (log 18). -/
def State.ConversionRuns (s v : State) : Prop :=
  v.aden = true ∧ v.adie = true ∧ (v.adsc = true ∨ v.adif = true ∨
    (s.I = true ∧ .serviced .adc ∈ v.trace.drop s.trace.length))

/-- A state of the SAMPLE fetched in s; before its `uSei` the mask is as it was at the fetch. -/
structure State.InSample (s v : State) : Prop where
  command : s.InCommand .sample .adc s.ConversionRuns v
  queue   : v.mq <:+ sampleQueue
  entryI  : v.mq = [] ∨ .uSei ∈ v.mq → v.I = s.I
  trace   : s.trace.length ≤ v.trace.length

/-- A move that is no command's keeps a conversion running, or serves it early, where `I` was 1 at the fetch. -/
theorem State.ConversionRuns.move (h : s.ConversionRuns v) (hm : Move t v u) (hr : t ≠ .reset)
    (hmc : ¬ MovesCommand t v) (hlen : s.trace.length ≤ v.trace.length)
    (hearly : v.serviceDue = true → u = v.service .adc → s.I = true) : s.ConversionRuns u := by
  obtain ⟨hen, hie, hbusy⟩ := h
  have hkept : ∀ es, .serviced .adc ∈ v.trace.drop s.trace.length →
      .serviced .adc ∈ (v.trace ++ es).drop s.trace.length := fun es hmem => by
    rw [List.drop_append_of_le_length hlen]
    exact List.mem_append_left es hmem
  cases hm with
  | reset ht => exact absurd ht hr
  | expire _ _ _ => exact ⟨hen, hie, hbusy.imp_right (.imp_right (.imp_right (hkept _)))⟩
  | convert _ _ _ _ => exact ⟨hen, hie, .inr (.inl rfl)⟩
  | service _ hd =>
    cases hsrc : v.highestPending with
    | wdt =>
      rw [State.service_wdt]
      exact ⟨hen, hie, hbusy.imp_right (.imp_right (.imp_right (hkept _)))⟩
    | adc =>
      have hI := hearly hd (by rw [hsrc])
      rw [State.service_adc]
      refine ⟨hen, hie, .inr (.inr ⟨hI, ?_⟩)⟩
      simp [List.drop_append_of_le_length hlen]
  | perform _ _ ht _ hd hh _ | illegal _ _ ht _ hd hh _ _ _ | fetch _ _ _ ht _ hd hh _ _ _ _ =>
    exact absurd ⟨ht, hd, hh⟩ hmc
  | pass _ _ => exact ⟨hen, hie, hbusy⟩

theorem Move.trace_length_le (h : Move t v u) : v.trace.length ≤ u.trace.length := by
  obtain ⟨es, hes, -⟩ := h.trace
  simp [hes]

/-- A conversion is serviced early only before `uSei`, with the mask of the fetch: in its shadow no service is due, and
in the halt the service ends the halt. -/
theorem State.InSample.of_idle (h : s.InSample v) (hm : Move t v u) (hr : t ≠ .reset)
    (hmc : ¬ MovesCommand t v) : s.InSample u := by
  have hi := hm.idle hr hmc
  refine ⟨h.command.of_idle hi fun hwhere hruns => hruns.move hm hr hmc h.trace fun hd hu => ?_,
    by rw [hi.mq]; exact h.queue, by rw [hi.mq, hi.I]; exact h.entryI, h.trace.trans hm.trace_length_le⟩
  obtain ⟨-, hI, hnsh, -⟩ := v.serviceDue_iff.1 hd
  rcases hwhere with ⟨q, hq⟩ | hsh | ⟨hw, hhu⟩
  · exact (h.entryI (.inr (by simp [hq]))).symm.trans hI
  · exact absurd (hnsh.symm.trans hsh) (by decide)
  · simp [hu, State.service_halted, hw, HaltWait.endedBy] at hhu

/-- Each micro-operation of a SAMPLE leaves a state of the SAMPLE, but `uDone`, which moves `CP` on (R142, R143). -/
theorem State.InSample.perform (h : s.InSample v) (hh : v.halted = false) {m : MicroOp} {q : List MicroOp}
    (hq : v.mq = m :: q) :
    s.InSample ((v.setQueue q).perform m) ∨ s.cp < ((v.setQueue q).perform m).cp := by
  obtain ⟨hc, hs, hI, hlen⟩ := h
  rw [hq] at hs hI
  have htail : q <:+ sampleQueue := (List.suffix_cons m q).trans hs
  suffices hk : (s.InCommand .sample .adc s.ConversionRuns ((v.setQueue q).perform m) ∧
      (q = [] ∨ .uSei ∈ q → ((v.setQueue q).perform m).I = s.I)) ∨ s.cp < ((v.setQueue q).perform m).cp from
    hk.imp_left fun ⟨hc, hI⟩ => ⟨hc, by simpa using htail, by simpa using hI, hlen.trans (by simp)⟩
  simp only [sampleQueue, List.suffix_cons_iff, List.cons.injEq, List.suffix_nil, reduceCtorEq, or_false] at hs
  rcases hs with ⟨rfl, rfl⟩ | ⟨rfl, rfl⟩ | ⟨rfl, rfl⟩ | ⟨rfl, rfl⟩ | ⟨rfl, rfl⟩ | ⟨rfl, rfl⟩ | ⟨rfl, rfl⟩ |
    ⟨rfl, rfl⟩
  · exact .inl ⟨.between hc.cp (by simp) hh (by simp [NoHaltAhead]), fun _ => hI (by simp)⟩
  · exact .inl ⟨⟨hc.cp, by simp, fun _ _ => ⟨rfl, rfl, .inl rfl⟩, by simp, by simp [State.perform, hh]⟩,
      fun _ => hI (by simp)⟩
  · exact .inl ⟨hc.perform_uSei hh hq id, by simp⟩
  · exact .inl ⟨hc.perform_uHaltUntil hq id, by simp⟩
  · exact .inl ⟨.between hc.cp (by simp) hh (by simp [NoHaltAhead]), by simp⟩
  · exact .inl ⟨.between hc.cp (by simp) hh (by simp [NoHaltAhead]), by simp⟩
  · exact .inl ⟨.between hc.cp (by simp) hh (by simp [NoHaltAhead]), by simp⟩
  · exact .inr (by simp [State.perform, hc.cp])

/-- The fetch step of a SAMPLE queues its micro-operations, or raises `NotInit` with nothing queued (R142). -/
theorem State.InSample.fetch (h : s.InSample v) (hh : v.halted = false) (hq : v.mq = [])
    (hf : fetchStep (encode .sample) v = .next u) : s.InSample u := by
  rw [fetchStep, decodeOfEncode _ .sample rfl] at hf
  have hI := h.entryI (.inl hq)
  cases hd : v.dspwr with
  | true =>
    cases (execSample_of_dspwr hd).symm.trans hf
    exact ⟨.between h.command.cp (by simp [sampleQueue]) hh (by simp [NoHaltAhead, sampleQueue]),
      List.suffix_rfl, fun _ => hI, h.trace⟩
  | false =>
    change execSample v = .next u at hf
    simp only [execSample, hd] at hf
    cases hf
    exact ⟨⟨h.command.cp, h.command.atFetch, h.command.armed, h.command.entering, h.command.halt⟩,
      h.queue, h.entryI, h.trace⟩

theorem State.InSample.move (h : s.InSample v) (hm : Move t v u) (hr : t ≠ .reset) :
    s.InSample u ∨ s.cp < u.cp := by
  by_cases hmc : MovesCommand t v
  · rcases hm.of_movesCommand hmc with rfl | ⟨m, q, hq, rfl⟩ | ⟨hq, x, hx, hfetch⟩
    · exact .inl h
    · exact h.perform hmc.2.2 hq
    · obtain rfl : encode .sample = x := Option.some.inj ((h.command.atFetch hq).symm.trans hx)
      exact .inl (h.fetch hmc.2.2 hq hfetch)
  · exact .inl (h.of_idle hm hr hmc)

theorem State.InSample.passTurn (h : s.InSample v) : s.InSample v.passTurn where
  command := h.command.of_idle (t := .engine) State.passTurn_idle fun _ hr => by
    simpa [State.ConversionRuns] using hr
  queue := by simpa using h.queue
  entryI := by simpa using h.entryI
  trace := by simpa using h.trace

/-! ### Where the halts can end -/

/-- Settles O45: through the turns of the run the command stays in one of its states (`State.InNap.move`,
`State.InSample.move`), in which a halt is for a source that runs (`State.InCommand.halt`). -/
theorem napAndSampleHaltsCanEnd : Obligations.NapAndSampleHaltsCanEnd := by
  intro s u turns rest hs hr hrun hcp hhu
  refine ⟨fun n hf => ?_, fun hf => ?_⟩
  · have h : s.InNap n u := run_keeps_in_command (s.InNap n)
      (fun _ h => h.of_idle (t := .engine) State.passTurn_idle) (fun _ _ _ h => h.move)
      ⟨hf.inCommand, fun hne => absurd hf.idle hne⟩ hs hr hrun hcp
    exact h.command.halt hhu
  · have h : s.InSample u := run_keeps_in_command s.InSample (fun _ h => h.passTurn) (fun _ _ _ h => h.move)
      ⟨hf.inCommand, by simp [hf.idle], fun _ => rfl, le_rfl⟩ hs hr hrun hcp
    exact h.command.halt hhu

end Sys2Proof.Machine
end
